-- ==== Sys2Proof/Word.lean ====
section
/-! DEFINITION. The byte, the status code field, and the raw operands of the `apply` call. -/

namespace Sys2Proof

/-- Every register, buffer byte and call byte is 8 bits wide, bit 7 the most significant (R8, R44). -/
abbrev Byte := BitVec 8

/-- The field `STATUS.S`, a status code divided by 8 (R23). -/
abbrev StatusField := BitVec 5

/-- The configuration handed to `apply`, before any check: the flags are the four bits the call encoding names and
the other fields are naturals, so that every value `apply` must reject or refuse can be written (R29, R75, R82). -/
structure ConfigArg where
  activate  : Bool
  irqEnable : Bool
  ackEnable : Bool
  gcEnable  : Bool
  selfAddr  : Nat
  mode      : Nat
  prescaler : Nat
  speed     : Nat
  deriving DecidableEq, Repr

end Sys2Proof
end

