-- ==== Sys2Proof/Syntax.lean ====
section
/-! DEFINITION. The one instruction type: 32 status codes the engine decodes and 12 foreground operations (R72, R75). -/

namespace Sys2Proof

/-- One constructor per row of spec/opcode_table.json. A status code carries no operand: bits 2:0 are masked off
before decoding (R65). A foreground operation carries the arguments of its call (R75). -/
inductive Instr where
  /-- bus error: illegal START or STOP (R125). -/
  | status00
  /-- START transmitted (R98). -/
  | status08
  /-- repeated START transmitted (R99). -/
  | status10
  /-- SLA+W transmitted, ACK received (R100). -/
  | status18
  /-- SLA+W transmitted, NACK received (R101). -/
  | status20
  /-- data transmitted, ACK received (R102). -/
  | status28
  /-- data transmitted, NACK received (R103). -/
  | status30
  /-- arbitration lost in SLA+R/W or data (master) (R104). -/
  | status38
  /-- SLA+R transmitted, ACK received (R105). -/
  | status40
  /-- SLA+R transmitted, NACK received (R106). -/
  | status48
  /-- data received, ACK returned (master) (R107). -/
  | status50
  /-- data received, NACK returned (master) (R108). -/
  | status58
  /-- own SLA+W received, ACK returned (R111). -/
  | status60
  /-- arbitration lost as master; own SLA+W received, ACK returned (R112). -/
  | status68
  /-- general call received, ACK returned (R113). -/
  | status70
  /-- arbitration lost as master; general call received, ACK returned (R114). -/
  | status78
  /-- addressed by own SLA+W; data received, ACK returned (R115). -/
  | status80
  /-- addressed by own SLA+W; data received, NACK returned (R116). -/
  | status88
  /-- addressed by general call; data received, ACK returned (R117). -/
  | status90
  /-- addressed by general call; data received, NACK returned (R118). -/
  | status98
  /-- STOP or repeated START received while addressed as slave (R119). -/
  | statusA0
  /-- own SLA+R received, ACK returned (R120). -/
  | statusA8
  /-- arbitration lost as master; own SLA+R received, ACK returned (R121). -/
  | statusB0
  /-- data transmitted (slave), ACK received (R122). -/
  | statusB8
  /-- data transmitted (slave), NACK received (R123). -/
  | statusC0
  /-- last data byte transmitted (`EA` = 0), ACK received (R124). -/
  | statusC8
  /-- no meaning assigned (R127). -/
  | statusD0
  /-- no meaning assigned (R127). -/
  | statusD8
  /-- no meaning assigned (R127). -/
  | statusE0
  /-- no meaning assigned (R127). -/
  | statusE8
  /-- no meaning assigned (R127). -/
  | statusF0
  /-- no relevant state information (R126). -/
  | statusF8
  /-- `apply(c)` (R82). -/
  | apply (c : ConfigArg)
  /-- `default()` (R84). -/
  | defaultConfig
  /-- `set_target_address(addr)` (R85). -/
  | setTargetAddress (addr : Nat)
  /-- `fill_transmit(bs)` (R86). -/
  | fillTransmit (bs : List Byte)
  /-- `set_receive_capacity(n)` (R87). -/
  | setReceiveCapacity (n : Nat)
  /-- `start()` (R88). -/
  | start
  /-- `stop()` (R89). -/
  | stop
  /-- `get_received()` (R90). -/
  | getReceived
  /-- `flush_receive()` (R91). -/
  | flushReceive
  /-- `flush_transmit()` (R92). -/
  | flushTransmit
  /-- `discover()` (R128). -/
  | discover
  /-- `report()` (R131). -/
  | report
  deriving DecidableEq, Repr

end Sys2Proof
end

