-- ==== Sys2Proof/WellFormed.lean ====
section
/-! DEFINITION. Which instructions the encoding can write: the checks on a call's operands, and the two formats. -/

namespace Sys2Proof

/-- An operand that the call encoding carries in one byte (R75). -/
abbrev fitsByte (n : Nat) : Bool := decide (n < 256)

/-- The speed operand, which the call encoding carries in four bytes (R75). -/
abbrev fitsSpeed (n : Nat) : Bool := decide (n < 4294967296)

/-- Every operand fits the argument bytes R75 gives it. A status code has no operand. -/
def Instr.wellFormed : Instr → Bool
  | .apply c => fitsByte c.selfAddr && fitsByte c.mode && fitsByte c.prescaler && fitsSpeed c.speed
  | .setTargetAddress addr => fitsByte addr
  | .fillTransmit bs => fitsByte bs.length
  | .setReceiveCapacity n => fitsByte n
  | .status00 => true
  | .status08 => true
  | .status10 => true
  | .status18 => true
  | .status20 => true
  | .status28 => true
  | .status30 => true
  | .status38 => true
  | .status40 => true
  | .status48 => true
  | .status50 => true
  | .status58 => true
  | .status60 => true
  | .status68 => true
  | .status70 => true
  | .status78 => true
  | .status80 => true
  | .status88 => true
  | .status90 => true
  | .status98 => true
  | .statusA0 => true
  | .statusA8 => true
  | .statusB0 => true
  | .statusB8 => true
  | .statusC0 => true
  | .statusC8 => true
  | .statusD0 => true
  | .statusD8 => true
  | .statusE0 => true
  | .statusE8 => true
  | .statusF0 => true
  | .statusF8 => true
  | .defaultConfig => true
  | .start => true
  | .stop => true
  | .getReceived => true
  | .flushReceive => true
  | .flushTransmit => true
  | .discover => true
  | .report => true

/-- The instruction is a foreground operation, a row of R75, and no status code of R72. -/
def Instr.isCall : Instr → Bool
  | .status00 => false
  | .status08 => false
  | .status10 => false
  | .status18 => false
  | .status20 => false
  | .status28 => false
  | .status30 => false
  | .status38 => false
  | .status40 => false
  | .status48 => false
  | .status50 => false
  | .status58 => false
  | .status60 => false
  | .status68 => false
  | .status70 => false
  | .status78 => false
  | .status80 => false
  | .status88 => false
  | .status90 => false
  | .status98 => false
  | .statusA0 => false
  | .statusA8 => false
  | .statusB0 => false
  | .statusB8 => false
  | .statusC0 => false
  | .statusC8 => false
  | .statusD0 => false
  | .statusD8 => false
  | .statusE0 => false
  | .statusE8 => false
  | .statusF0 => false
  | .statusF8 => false
  | .apply _ => true
  | .defaultConfig => true
  | .setTargetAddress _ => true
  | .fillTransmit _ => true
  | .setReceiveCapacity _ => true
  | .start => true
  | .stop => true
  | .getReceived => true
  | .flushReceive => true
  | .flushTransmit => true
  | .discover => true
  | .report => true

end Sys2Proof
end

