-- ==== Sys2Proof/Decode.lean ====
section
/-! DEFINITION. The two decoders, the encoder written from the same tables, and the opcode table's own numbering.

A status byte and a call's selector byte share values, so the byte's reader decides the format: HANDLER decodes
`STATUS` (R65, R71), FG's call decoder the call bytes (R75). -/

namespace Sys2Proof

/-- Why call bytes name no instruction. -/
inductive CallError where
  /-- The selector is none of R75's (R73). -/
  | unknownSelector
  /-- The bytes end before the call's argument bytes do. -/
  | truncated
  deriving DecidableEq, Repr

/-- The transition R72 assigns to the status code `S * 8`; `31` is the last of the 32 codes. -/
def decodeStatusField (field : StatusField) : Instr :=
  match field.toNat with
  | 0 => .status00
  | 1 => .status08
  | 2 => .status10
  | 3 => .status18
  | 4 => .status20
  | 5 => .status28
  | 6 => .status30
  | 7 => .status38
  | 8 => .status40
  | 9 => .status48
  | 10 => .status50
  | 11 => .status58
  | 12 => .status60
  | 13 => .status68
  | 14 => .status70
  | 15 => .status78
  | 16 => .status80
  | 17 => .status88
  | 18 => .status90
  | 19 => .status98
  | 20 => .statusA0
  | 21 => .statusA8
  | 22 => .statusB0
  | 23 => .statusB8
  | 24 => .statusC0
  | 25 => .statusC8
  | 26 => .statusD0
  | 27 => .statusD8
  | 28 => .statusE0
  | 29 => .statusE8
  | 30 => .statusF0
  | _ => .statusF8

/-- The status decoder: total on all 256 values of `STATUS`, which it masks with 0xF8 (R65, R71). -/
def decodeStatus (b : Byte) : Instr :=
  decodeStatusField (b.extractLsb' 3 5)

/-- A 4-byte integer of the call encoding, most significant byte first (R75). -/
def speedOfBytes (b3 b2 b1 b0 : Byte) : Nat :=
  b3.toNat * 16777216 + b2.toNat * 65536 + b1.toNat * 256 + b0.toNat

/-- The configuration of an `apply` call, from its flags byte and its other argument bytes (R75). -/
def configOfBytes (flags self mode ps b3 b2 b1 b0 : Byte) : ConfigArg where
  activate := flags.getLsbD 0
  irqEnable := flags.getLsbD 1
  ackEnable := flags.getLsbD 2
  gcEnable := flags.getLsbD 3
  selfAddr := self.toNat
  mode := mode.toNat
  prescaler := ps.toNat
  speed := speedOfBytes b3 b2 b1 b0

/-- What decoding a call gives: the instruction and the bytes after it, or why there is none. -/
abbrev CallDecoded := Except CallError (Instr × List Byte)

/-- The arguments of `apply`: eight bytes (R75). -/
def decodeApply : List Byte → CallDecoded
  | flags :: self :: mode :: ps :: b3 :: b2 :: b1 :: b0 :: rest =>
    .ok (.apply (configOfBytes flags self mode ps b3 b2 b1 b0), rest)
  | _ => .error .truncated

/-- The argument of a call with one operand byte (R75). -/
def decodeOne (call : Nat → Instr) : List Byte → CallDecoded
  | a :: rest => .ok (call a.toNat, rest)
  | [] => .error .truncated

/-- The arguments of `fill_transmit`: a length byte and that many bytes (R75). -/
def decodeFill : List Byte → CallDecoded
  | n :: rest =>
    if rest.length < n.toNat then .error .truncated
    else .ok (.fillTransmit (rest.take n.toNat), rest.drop n.toNat)
  | [] => .error .truncated

/-- The call a selector names, read with its arguments off the front of `args` (R75); any other selector is rejected by
name (R73). -/
def decodeSelector (sel : Nat) (args : List Byte) : CallDecoded :=
  match sel with
  | 1 => decodeApply args
  | 2 => .ok (.defaultConfig, args)
  | 3 => decodeOne .setTargetAddress args
  | 4 => decodeFill args
  | 5 => decodeOne .setReceiveCapacity args
  | 6 => .ok (.start, args)
  | 7 => .ok (.stop, args)
  | 8 => .ok (.getReceived, args)
  | 9 => .ok (.flushReceive, args)
  | 10 => .ok (.flushTransmit, args)
  | 11 => .ok (.discover, args)
  | 12 => .ok (.report, args)
  | _ => .error .unknownSelector

/-- The call decoder: one call off the front of the call bytes, and the bytes after it (R75). An unknown selector and
a call cut short are rejected by name. -/
def decodeCall : List Byte → CallDecoded
  | [] => .error .truncated
  | sel :: args => decodeSelector sel.toNat args

/-- Byte `k` of a natural, byte 0 the least significant. -/
def byteOf (n k : Nat) : Byte :=
  BitVec.ofNat 8 (n / 256 ^ k)

/-- The flags byte of an `apply` call: bit 0 activate, 1 irq_enable, 2 ack_enable, 3 gc_enable (R75). -/
def flagsByte (activate irqEnable ackEnable gcEnable : Bool) : Byte :=
  BitVec.ofNat 8 (activate.toNat + 2 * irqEnable.toNat + 4 * ackEnable.toNat + 8 * gcEnable.toNat)

/-- The words of an instruction: a status code is its one byte (R72), a call its selector and arguments (R75). -/
def encode : Instr → List Byte
  | .status00 => [0x00#8]
  | .status08 => [0x08#8]
  | .status10 => [0x10#8]
  | .status18 => [0x18#8]
  | .status20 => [0x20#8]
  | .status28 => [0x28#8]
  | .status30 => [0x30#8]
  | .status38 => [0x38#8]
  | .status40 => [0x40#8]
  | .status48 => [0x48#8]
  | .status50 => [0x50#8]
  | .status58 => [0x58#8]
  | .status60 => [0x60#8]
  | .status68 => [0x68#8]
  | .status70 => [0x70#8]
  | .status78 => [0x78#8]
  | .status80 => [0x80#8]
  | .status88 => [0x88#8]
  | .status90 => [0x90#8]
  | .status98 => [0x98#8]
  | .statusA0 => [0xA0#8]
  | .statusA8 => [0xA8#8]
  | .statusB0 => [0xB0#8]
  | .statusB8 => [0xB8#8]
  | .statusC0 => [0xC0#8]
  | .statusC8 => [0xC8#8]
  | .statusD0 => [0xD0#8]
  | .statusD8 => [0xD8#8]
  | .statusE0 => [0xE0#8]
  | .statusE8 => [0xE8#8]
  | .statusF0 => [0xF0#8]
  | .statusF8 => [0xF8#8]
  | .apply c =>
    [0x01#8, flagsByte c.activate c.irqEnable c.ackEnable c.gcEnable, byteOf c.selfAddr 0,
      byteOf c.mode 0, byteOf c.prescaler 0, byteOf c.speed 3, byteOf c.speed 2, byteOf c.speed 1, byteOf c.speed 0]
  | .defaultConfig => [0x02#8]
  | .setTargetAddress addr => [0x03#8, byteOf addr 0]
  | .fillTransmit bs => 0x04#8 :: byteOf bs.length 0 :: bs
  | .setReceiveCapacity n => [0x05#8, byteOf n 0]
  | .start => [0x06#8]
  | .stop => [0x07#8]
  | .getReceived => [0x08#8]
  | .flushReceive => [0x09#8]
  | .flushTransmit => [0x0A#8]
  | .discover => [0x0B#8]
  | .report => [0x0C#8]

/-- The two formats of the opcode table (its column `format`). -/
inductive WordFormat where
  /-- A status byte, read by HANDLER from `STATUS`. -/
  | status
  /-- A call, read by FG from the call bytes. -/
  | call
  deriving DecidableEq, Repr

/-- The bytes of a word numbered as the opcode table numbers it: byte `k` is bits `8k+7 .. 8k`. -/
def tableBytes : Nat → Nat → List Byte
  | 0, _ => []
  | k + 1, w => BitVec.ofNat 8 w :: tableBytes k (w / 256)

/-- Which format a table word is read in (DESIGN CHOICE, log 6: the table numbers both formats alike). A word longer
than a byte is a call; a byte that is a selector but no status code as the table writes it (a multiple of 8) is a call;
every other byte, 0x08 among them, is a status byte. -/
def tableFormat (nbits w : Nat) : WordFormat :=
  if 8 < nbits then .call
  else if w % 8 = 0 then .status
  else if w % 256 ≤ 12 then .call
  else .status

/-- How many bytes a table word of `nbits` bits has. -/
def tableLength (nbits : Nat) : Nat :=
  (nbits + 7) / 8

/-- The call bytes of a table word: its own bytes, and after them zeros enough for every call of the table with no data
bytes (`apply` has nine bytes). -/
def tableCallBytes (nbits w : Nat) : List Byte :=
  tableBytes (tableLength nbits) (w % 2 ^ nbits) ++ List.replicate 9 0x00#8

/-- What the decoder of a table word's format reads from it (none where it refuses). -/
def decodeTableWord (nbits w : Nat) : Option Instr :=
  match tableFormat nbits w with
  | .status => some (decodeStatus (BitVec.ofNat 8 w))
  | .call =>
    match decodeCall (tableCallBytes nbits w) with
    | .ok (i, _) => some i
    | .error _ => none

/-- The call bytes a table word's instruction takes, without the zeros after it. -/
def tableCall (nbits w : Nat) : List Byte :=
  match decodeCall (tableCallBytes nbits w) with
  | .ok (_, rest) => (tableCallBytes nbits w).take ((tableCallBytes nbits w).length - rest.length)
  | .error _ => tableCallBytes nbits w

end Sys2Proof
end

