-- ==== Sys2Proof/Config.lean ====
section
/-! DEFINITION. What one instance of the block fixes (R6), and the free values: opaque constants without a body. -/

namespace Sys2Proof

/-- One decision of the scheduler and of the peripheral: which agent takes the next step (R140, D26), and for a
peripheral event the two draws of R144. -/
inductive Move where
  /-- FG takes its next atomic step. -/
  | fg
  /-- HANDLER takes a step, if an event is deliverable. -/
  | handler
  /-- PERIPH presents the status code `code` (times 8), and leaves `d` in `DATA` if a byte was received. -/
  | event (code : StatusField) (d : Byte)
  /-- PERIPH executes a pending stop (R145). -/
  | stopDone
  deriving DecidableEq, Repr, Inhabited

/-- One emission on the debug text channel, as an event (R16, R138). -/
inductive Emission where
  /-- The unmapped-status report of R127 for status code `s`. -/
  | unmapped (s : Byte)
  /-- One cell of the `report` grid, `GLYPH(present)` (R131). -/
  | glyph (present : Bool)
  /-- `ROW_END` of the `report` grid (R131). -/
  | rowEnd
  deriving DecidableEq, Repr

/-- `PERIPH_MODEL` (R6): how constrained the peripheral is. -/
inductive PeriphModel where
  | free
  | datasheet
  deriving DecidableEq, Repr

namespace Config

/-- OPEN parameter: `RX_MAX - 1`, so that `1 ≤ RX_MAX ≤ 255` (R6, D3). -/
opaque rxMaxPred : Fin 255

/-- OPEN parameter: `TX_MAX - 1`, so that `1 ≤ TX_MAX ≤ 255` (R6, D3). -/
opaque txMaxPred : Fin 255

/-- OPEN parameter: `F_CPU - 1`, so that `F_CPU` is positive (R6, D4). -/
opaque fCpuPred : Nat

/-- `RX_MAX`, the receive capacity (R6). -/
def rxMax : Nat := rxMaxPred.val + 1

/-- `TX_MAX`, the transmit arena's size (R6). -/
def txMax : Nat := txMaxPred.val + 1

/-- `F_CPU` in Hz (R6). -/
def fCpu : Nat := fCpuPred + 1

/-- `SENTINEL` (R6, D5). -/
def sentinel : Byte := 0x00#8

/-- `SPEED_MAX` in Hz (R6). -/
def speedMax : Nat := 400000

/-- `DIV_MIN` (R6). -/
def divMin : Int := 10

/-- The `PERIPH_MODEL` the machine runs with: the spec's default (R6, D27). -/
def periphModel : PeriphModel := .free

/-- `TWI_VECTOR`: the number of the CPU's interrupt vector through which events reach HANDLER. Informative: no rule
depends on it (R6, R50). -/
def twiVector : Nat := 27

/-- The program word address of `TWI_VECTOR`, informative as the number is (R6, R50). -/
def twiVectorAddress : Nat := 0x0034

/-- OPEN parameter `DEBUG_TEXT`: the characters of an emission (R6, R138, D18, D23). -/
opaque debugText : Emission → String

/-- Free value: what slot `i` of the transmit arena holds at power-on (R43, U10). -/
opaque txPowerOn : Nat → Byte

/-- Free value: what slot `i` of the receive arena holds at power-on (R43, U10). -/
opaque rxPowerOn : Nat → Byte

/-- Free value: the `n`-th move once the schedule held in the state is used up (R140, U12). -/
opaque freeMove : Nat → Move

end Config

end Sys2Proof
end

