-- ==== Sys2Proof/Machine/State.lean ====
section
/-! DEFINITION. Everything the spec gives the machine, as plain data, and its value after power-on reset (R43). -/

namespace Sys2Proof.Machine

/-- Why the machine stops. No instruction's meaning raises one. -/
inductive Fault where
  /-- Raised by FG's fetch (`fgStep`) when the call bytes of the program end inside a call: there is no byte to read.
  Safe: the spec gives such bytes no meaning, and the model stops (log 7). -/
  | truncatedCall
  deriving DecidableEq, Repr

/-- Why an instruction has no meaning. -/
inductive Refusal where
  /-- Raised by an arm of `exec` whose instruction has no meaning yet; no arm does. Safe: the model stops. -/
  | notModelled (mnemonic : String)
  deriving DecidableEq, Repr

/-- The operating mode (R30, D29). -/
inductive Mode where
  | slave
  | masterTransmit
  | masterReceive
  deriving DecidableEq, Repr

/-- The TransferDirection (R31, D29). -/
inductive Direction where
  | unknown
  | receive
  | transmit
  deriving DecidableEq, Repr

/-- The CommunicationError, `last_error` (R35, D29). -/
inductive CommError where
  | none
  | addressNotAcknowledged
  | dataNotAcknowledged
  | arbitrationLost
  | illegalStartOrStop
  deriving DecidableEq, Repr

/-- The AddressAcknowledgmentLatch (R36, D29). -/
inductive AckLatch where
  | unset
  | positive
  | negative
  deriving DecidableEq, Repr

/-- A BusConfiguration (R29). -/
structure BusConfig where
  activate  : Bool
  irqEnable : Bool
  ackEnable : Bool
  gcEnable  : Bool
  selfAddr  : BitVec 7
  speed     : Nat
  mode      : Mode
  prescaler : BitVec 2
  deriving DecidableEq, Repr

/-- What a public operation returns (R76); `Ok` carries a value for `default` and for `get_received`. -/
inductive Result where
  | ok
  | okConfig (c : BusConfig)
  | okBytes (bs : List Byte)
  | selfAddressOutOfRange
  | bitRateTooLowForMaster
  | speedUnsupported
  | addressOutOfRange
  | selfAddressingNotAllowed
  | notPermittedInSlaveMode
  | notInTransmitRole
  | nothingToFlush
  | notDiscoveredYet
  | noDevicesFound
  | noDataYet
  | notActivated
  deriving DecidableEq, Repr

/-- The names of the spec's refusals (R136). -/
inductive RefuseName where
  | prescalerRange
  | modeRange
  | speedZero
  | divisorOverflow
  | txTooLong
  | rxCapacity
  | unknownSelector
  deriving DecidableEq, Repr

/-- How a call ended: it returned a result (R76), or it was refused and did not happen (R136). -/
inductive CallOutcome where
  | returned (r : Result)
  | refused (n : RefuseName)
  deriving DecidableEq, Repr

/-- The set `faults` of R137: one bit for each of its two names. -/
structure FaultMarks where
  fillDuringTransfer  : Bool
  startDuringTransfer : Bool
  deriving DecidableEq, Repr

/-- A buffer arena: the slots written since power-on with the byte each holds, in strictly rising slot order. An
unlisted slot has not been written since power-on. -/
abbrev Memory := List Host.Cell

/-- The TransmitBuffer (R33). -/
structure TxBuffer where
  live   : Bool
  len    : Nat
  cursor : Nat
  bytes  : Memory
  deriving DecidableEq, Repr

/-- The ReceiveBuffer (R34). -/
structure RxBuffer where
  live     : Bool
  capacity : Nat
  cursor   : Nat
  slots    : Memory
  deriving DecidableEq, Repr

/-- The numbered line of `discover` the foreground executes next (R128); line 1 is the call itself. -/
inductive DiscoverLine where
  /-- Line 2, the loop's head. -/
  | loopHead
  /-- Line 3, `set_target_address(a)`. -/
  | setTarget
  /-- Line 4, `start()`. -/
  | startProbe
  /-- Line 5, one poll of the latch. -/
  | poll
  /-- Line 6, with the value `l` that line 5 read. -/
  | record (l : AckLatch)
  /-- Line 7, the end of the scan. -/
  | commit
  deriving DecidableEq, Repr

/-- A `discover` in progress: its line and its locals (R18, R128). -/
structure Discovery where
  line : DiscoverLine
  a    : Fin 128
  seen : Vector Bool 128
  any  : Bool
  deriving DecidableEq, Repr

/-- The machine. -/
structure State where
  /-- `CTRL`: INT 7, EA 6, STA 5, STO 4, WC 3, EN 2, reserved 1, IE 0 (R19). -/
  ctrl : Byte
  /-- `STATUS`: S 7:3, reserved 2, PS 1:0 (R23). -/
  status : Byte
  /-- `DATA` (R24). -/
  data : Byte
  /-- `ADDR`: A 7:1, GCE 0 (R25). -/
  addr : Byte
  /-- `BITRATE` (R26). -/
  bitrate : Byte
  /-- `AMR` (R27). -/
  amr : Byte
  /-- The global interrupt enable (R28). -/
  gie : Bool
  /-- The active BusConfiguration; its `mode` field is the operating mode (R29, R30). -/
  cfg : BusConfig
  /-- The TransferDirection (R31). -/
  direction : Direction
  /-- The target address of master transfers (R32). -/
  target : BitVec 7
  /-- The transmit buffer (R33). -/
  tx : TxBuffer
  /-- The receive buffer (R34). -/
  rx : RxBuffer
  /-- `last_error` (R35). -/
  lastError : CommError
  /-- `ack_latch` (R36). -/
  ackLatch : AckLatch
  /-- DiscoveredDevices (R37). -/
  found : Vector Bool 128
  /-- A discovery has succeeded (R37). -/
  discoveredOk : Bool
  /-- A transfer is outstanding: bookkeeping (R38). -/
  xferActive : Bool
  /-- The sticky set of faults (R39, R137). -/
  faults : FaultMarks
  /-- The sticky refusal mark (R39, R136). -/
  refused : Bool
  /-- The emissions on the debug channel, oldest first (R39, R138). -/
  debugOut : List Emission
  /-- The `discover` in progress, if any (R18, R128). -/
  disc : Option Discovery
  /-- PERIPH's protocol position: the bus is idle (R41; read by the datasheet peripheral of R146 only). -/
  busIdle : Bool
  /-- The model's own: the foreground program's remaining call bytes (R75, R77). -/
  program : List Byte
  /-- The model's own: the outcome of every finished call, oldest first (R76). -/
  returns : List CallOutcome
  /-- The model's own: the next moves, as far as they are decided (R140). -/
  sched : List Move
  /-- The model's own: how many free moves have been taken. -/
  tick : Nat
  deriving DecidableEq, Repr

/-- `cfg` after reset (R43). -/
def BusConfig.reset : BusConfig where
  activate := false
  irqEnable := false
  ackEnable := false
  gcEnable := false
  selfAddr := 0#7
  speed := 0
  mode := .slave
  prescaler := 0#2

/-- The machine right after power-on (R43, R154): no program, no schedule, no slot of an arena written. -/
def State.reset : State where
  ctrl := 0x00#8
  status := 0xF8#8
  data := 0xFF#8
  addr := 0xFE#8
  bitrate := 0x00#8
  amr := 0x00#8
  gie := false
  cfg := BusConfig.reset
  direction := .unknown
  target := 0#7
  tx := { live := false, len := 0, cursor := 0, bytes := [] }
  rx := { live := false, capacity := 0, cursor := 0, slots := [] }
  lastError := .none
  ackLatch := .unset
  found := Vector.replicate 128 false
  discoveredOk := false
  xferActive := false
  faults := { fillDuringTransfer := false, startDuringTransfer := false }
  refused := false
  debugOut := []
  disc := none
  busIdle := true
  program := []
  returns := []
  sched := []
  tick := 0

end Sys2Proof.Machine
end

