-- ==== Sys2Proof/Machine/Flags.lean ====
section
/-! DEFINITION. The fields of `CTRL` and `STATUS`, the control word, and what a write to either register leaves. -/

namespace Sys2Proof.Machine

/-- `CTRL.INT`, the event pending flag (R19, R20). -/
def ctrlInt (c : Byte) : Bool := c.getLsbD 7

/-- `CTRL.EA`, enable acknowledge (R19). -/
def ctrlEa (c : Byte) : Bool := c.getLsbD 6

/-- `CTRL.STA`, the start request (R19, R21). -/
def ctrlSta (c : Byte) : Bool := c.getLsbD 5

/-- `CTRL.STO`, the stop request (R19, R22). -/
def ctrlSto (c : Byte) : Bool := c.getLsbD 4

/-- `CTRL.WC`, the write collision flag (R19). -/
def ctrlWc (c : Byte) : Bool := c.getLsbD 3

/-- `CTRL.EN`, the peripheral is enabled (R19). -/
def ctrlEn (c : Byte) : Bool := c.getLsbD 2

/-- `CTRL.IE`, an event may be delivered (R19). -/
def ctrlIe (c : Byte) : Bool := c.getLsbD 0

/-- The bit `b` at place `i` of a byte. -/
def bitAt (b : Bool) (i : Nat) : Byte :=
  if b then BitVec.ofNat 8 (2 ^ i) else 0x00#8

/-- A word for `CTRL`, `int:ea:sta:sto:0:en:0:ie` (R66). -/
def ctrlWord (int ea sta sto en ie : Bool) : Byte :=
  bitAt int 7 ||| bitAt ea 6 ||| bitAt sta 5 ||| bitAt sto 4 ||| bitAt en 2 ||| bitAt ie 0

/-- `ctl(sta, sto, ea)`: bit 7 set, `EN` and `IE` copied from the current `CTRL` (R66). -/
def ctl (c : Byte) (sta sto ea : Bool) : Byte :=
  ctrlWord true ea sta sto (ctrlEn c) (ctrlIe c)

/-- `CTRL` after the block writes `v` to it: `INT` is cleared iff `v[7] = 1`; `EA`, `STA`, `STO`, `EN`, `IE` take `v`'s
bits; `WC` and bit 1 do not change (R19). -/
def ctrlAfterWrite (old v : Byte) : Byte :=
  (if v.getLsbD 7 then 0x00#8 else old &&& 0x80#8) ||| (v &&& 0x75#8) ||| (old &&& 0x0A#8)

/-- `CTRL` with `INT` set by PERIPH (R144). -/
def ctrlSetInt (c : Byte) : Byte := c ||| 0x80#8

/-- `CTRL` with `STO` cleared by PERIPH (R145). -/
def ctrlClearSto (c : Byte) : Byte := c &&& 0xEF#8

/-- `CTRL` with `WC` set: `DATA` was written while `INT = 0` (R19, R24). -/
def ctrlSetWc (c : Byte) : Byte := c ||| 0x08#8

/-- `CTRL` with `WC` cleared: `DATA` was written while `INT = 1` (R19). -/
def ctrlClearWc (c : Byte) : Byte := c &&& 0xF7#8

/-- The status code `STATUS & 0xF8` (R65). -/
def statusCode (st : Byte) : Byte := st &&& 0xF8#8

/-- `STATUS` after the block writes `v` to it: only `PS` changes (R23). -/
def statusAfterWrite (old v : Byte) : Byte :=
  (old &&& 0xFC#8) ||| (v &&& 0x03#8)

/-- `STATUS` after PERIPH writes `S` (R144). -/
def statusSetCode (old : Byte) (code : StatusField) : Byte :=
  (old &&& 0x07#8) ||| (code.zeroExtend 8 <<< 3)

end Sys2Proof.Machine
end

