-- ==== Sys2Proof/Machine/Operands.lean ====
section
/-! DEFINITION. The operands the block assembles (R70): the SLA+R/W byte, the own-address byte and the bit-rate
divisor; the default profile; and the numbering of results and errors (R76, D29). -/

namespace Sys2Proof.Machine

/-- `rw`: 1 asks to read, and only `direction = receive` does (R67, D13). -/
def rwBit : Direction → Bool
  | .receive => true
  | .unknown => false
  | .transmit => false

/-- The SLA+R/W byte: the target in bits 7:1, `rw` in bit 0 (R67). -/
def slaByte (target : BitVec 7) (d : Direction) : Byte :=
  (target.zeroExtend 8 <<< 1) ||| (BitVec.ofBool (rwBit d)).zeroExtend 8

/-- The own-address byte: the self address in bits 7:1, general-call enable in bit 0 (R68). -/
def ownAddressByte (selfAddr : BitVec 7) (gc : Bool) : Byte :=
  (selfAddr.zeroExtend 8 <<< 1) ||| (BitVec.ofBool gc).zeroExtend 8

/-- `divisor(s, p)`, over the integers with floor divisions (R79, R80). -/
def divisor (fCpu speed prescaler : Nat) : Int :=
  Int.fdiv (((fCpu / speed : Nat) : Int) - 16) (2 * 4 ^ prescaler)

/-- The mode a number stands for (R30, D29). -/
def modeOfNat : Nat → Option Mode
  | 0 => some .slave
  | 1 => some .masterTransmit
  | 2 => some .masterReceive
  | _ => none

/-- The number of a mode (R30, D29). -/
def modeNumber : Mode → Nat
  | .slave => 0
  | .masterTransmit => 1
  | .masterReceive => 2

/-- The direction a successful `apply` settles (R83). -/
def directionOfMode : Mode → Direction
  | .slave => .unknown
  | .masterTransmit => .transmit
  | .masterReceive => .receive

/-- The profile `default()` returns (R84). -/
def defaultProfile : BusConfig where
  activate := true
  irqEnable := true
  ackEnable := false
  gcEnable := false
  selfAddr := 0x70#7
  speed := 100000
  mode := .masterTransmit
  prescaler := 0#2

/-- A BusConfiguration as an argument of `apply`. -/
def BusConfig.toArg (c : BusConfig) : ConfigArg where
  activate := c.activate
  irqEnable := c.irqEnable
  ackEnable := c.ackEnable
  gcEnable := c.gcEnable
  selfAddr := c.selfAddr.toNat
  mode := modeNumber c.mode
  prescaler := c.prescaler.toNat
  speed := c.speed

/-- The BusConfiguration of an argument whose fields `apply` has checked, with the mode its number stands for. -/
def configOfArg (c : ConfigArg) (m : Mode) : BusConfig where
  activate := c.activate
  irqEnable := c.irqEnable
  ackEnable := c.ackEnable
  gcEnable := c.gcEnable
  selfAddr := BitVec.ofNat 7 c.selfAddr
  speed := c.speed
  mode := m
  prescaler := BitVec.ofNat 2 c.prescaler

/-- The code of a result (R76). -/
def resultCode : Result → Byte
  | .ok => 0x00#8
  | .okConfig _ => 0x00#8
  | .okBytes _ => 0x00#8
  | .selfAddressOutOfRange => 0x01#8
  | .bitRateTooLowForMaster => 0x02#8
  | .speedUnsupported => 0x03#8
  | .addressOutOfRange => 0x04#8
  | .selfAddressingNotAllowed => 0x05#8
  | .notPermittedInSlaveMode => 0x06#8
  | .notInTransmitRole => 0x07#8
  | .nothingToFlush => 0x08#8
  | .notDiscoveredYet => 0x09#8
  | .noDevicesFound => 0x0A#8
  | .noDataYet => 0x0B#8
  | .notActivated => 0x0C#8

/-- The number of a `last_error` value (R35). -/
def errorNumber : CommError → Nat
  | .none => 0
  | .addressNotAcknowledged => 1
  | .dataNotAcknowledged => 2
  | .arbitrationLost => 3
  | .illegalStartOrStop => 4

/-- The number of a latch value (R36). -/
def latchNumber : AckLatch → Nat
  | .unset => 0
  | .positive => 1
  | .negative => 2

/-- The number of a direction (R31). -/
def directionNumber : Direction → Nat
  | .unknown => 0
  | .receive => 1
  | .transmit => 2

end Sys2Proof.Machine
end

