-- ==== Sys2Proof/Machine/Ops.lean ====
section
/-! DEFINITION. The named operations over registers, arenas and engine state that the meanings are written with.

The block raises no processor exception (R132, R142): what takes the place of taking one and returning from one is
event delivery, `deliverable` here, and the `finish` that retires the event. -/

namespace Sys2Proof.Machine

/-! ### Arenas -/

/-- The byte a listed slot holds. -/
def Memory.lookup : Memory → Nat → Option Byte
  | [], _ => none
  | (k, b) :: rest, i => if k = i then some b else Memory.lookup rest i

/-- What slot `i` holds: the byte last written, or `powerOn i` where nothing has been written since power-on (R43). -/
def Memory.read (powerOn : Nat → Byte) (m : Memory) (i : Nat) : Byte :=
  (m.lookup i).getD (powerOn i)

/-- Writes slot `i`, keeping the slots in strictly rising order. -/
def Memory.write : Memory → Nat → Byte → Memory
  | [], i, b => [(i, b)]
  | (k, c) :: rest, i, b =>
    if i < k then (i, b) :: (k, c) :: rest
    else if k = i then (i, b) :: rest
    else (k, c) :: Memory.write rest i b

/-- Writes the bytes of a list to the slots from `i` up, in order. -/
def Memory.writeList (m : Memory) (i : Nat) : List Byte → Memory
  | [] => m
  | b :: bs => Memory.writeList (m.write i b) (i + 1) bs

/-- The canonical form of an arena of `size` slots: slots strictly rising, none outside. -/
abbrev Memory.wf (size : Nat) (m : Memory) : Prop :=
  m.Pairwise (fun x y => x.1 < y.1) ∧ ∀ x ∈ m, x.1 < size

/-! ### Registers -/

/-- The six interface registers (R17). -/
inductive Reg where
  | bitrate
  | status
  | addr
  | data
  | ctrl
  | amr
  deriving DecidableEq, Repr

/-- The register at a data-space address (R50). -/
def regAt : Nat → Option Reg
  | 0xB8 => some .bitrate
  | 0xB9 => some .status
  | 0xBA => some .addr
  | 0xBB => some .data
  | 0xBC => some .ctrl
  | 0xBD => some .amr
  | _ => none

/-- Reads a register: the reserved bits `CTRL[1]`, `STATUS[2]` and `AMR[0]` read 0 (R19, R23, R27), and no read has a
side effect (R49). -/
def State.readReg (s : State) : Reg → Byte
  | .bitrate => s.bitrate
  | .status => s.status &&& 0xFB#8
  | .addr => s.addr
  | .data => s.data
  | .ctrl => s.ctrl &&& 0xFD#8
  | .amr => s.amr &&& 0xFE#8

/-- The block writes `v` to `CTRL` (R19). -/
def State.writeCtrl (s : State) (v : Byte) : State :=
  { s with ctrl := ctrlAfterWrite s.ctrl v }

/-- The block writes `v` to `DATA`: lost, with `WC` set, while `INT = 0`; else stored, with `WC` cleared (R19, R24). -/
def State.writeData (s : State) (v : Byte) : State :=
  if ctrlInt s.ctrl then { s with data := v, ctrl := ctrlClearWc s.ctrl }
  else { s with ctrl := ctrlSetWc s.ctrl }

/-- The block writes `v` to a register (R19 to R27, R49). -/
def State.writeReg (s : State) (r : Reg) (v : Byte) : State :=
  match r with
  | .bitrate => { s with bitrate := v }
  | .status => { s with status := statusAfterWrite s.status v }
  | .addr => { s with addr := v }
  | .data => s.writeData v
  | .ctrl => s.writeCtrl v
  | .amr => { s with amr := v &&& 0xFE#8 }

/-- `MemRead(a, 1)`: the register at `a`; the block has no other address (R9, R50). -/
def State.memRead (s : State) (a : Nat) : Option Byte :=
  (regAt a).map s.readReg

/-- `MemWrite(a, 1, v)`: a write of the register at `a`; the block has no other address (R9, R50). -/
def State.memWrite (s : State) (a : Nat) (v : Byte) : Option State :=
  (regAt a).map fun r => s.writeReg r v

/-! ### Transmit buffer primitives -/

/-- `tx_fill(bs)` (R56). -/
def txFill (bs : List Byte) (s : State) : State :=
  { s with tx := { live := true, len := bs.length, cursor := 0, bytes := Memory.writeList s.tx.bytes 0 bs } }

/-- `tx_has_next()` (R57). -/
def txHasNext (s : State) : Bool :=
  s.tx.live && decide (s.tx.cursor < s.tx.len)

/-- The byte `tx.byte[tx.cursor]` that `tx_next()` returns (R58). -/
def txNextByte (s : State) : Byte :=
  Memory.read Config.txPowerOn s.tx.bytes s.tx.cursor

/-- `tx_next()`'s step of the cursor (R58). -/
def txAdvance (s : State) : State :=
  { s with tx := { s.tx with cursor := s.tx.cursor + 1 } }

/-- `tx_release()` (R59). -/
def txRelease (s : State) : State :=
  { s with tx := { s.tx with live := false, len := 0, cursor := 0 } }

/-! ### Receive buffer primitives -/

/-- `rx_alloc()` on a buffer (R60). -/
def rxAlloc (rx : RxBuffer) : RxBuffer :=
  if rx.live then rx else { rx with live := true, cursor := 0 }

/-- `rx_full()` (R61). -/
def rxFull (rx : RxBuffer) : Bool :=
  decide (rx.capacity ≤ rx.cursor)

/-- Writes a slot of the receive arena. -/
def rxPut (rx : RxBuffer) (i : Nat) (b : Byte) : RxBuffer :=
  { rx with slots := rx.slots.write i b }

/-- The part of `rx_append(b)` after the allocation (R62). -/
def rxStore (b : Byte) (rx : RxBuffer) : RxBuffer :=
  if rx.cursor < rx.capacity then
    let kept := { rxPut rx rx.cursor b with cursor := rx.cursor + 1 }
    if rxFull kept then rxPut kept kept.cursor Config.sentinel else kept
  else rx

/-- `rx_append(b)` (R62). -/
def rxAppend (b : Byte) (s : State) : State :=
  { s with rx := rxStore b (rxAlloc s.rx) }

/-- `rx_sentinel()` (R63). -/
def rxSentinel (s : State) : State :=
  if s.rx.live then { s with rx := rxPut s.rx s.rx.cursor Config.sentinel } else s

/-- `rx_release()` (R64). -/
def rxRelease (s : State) : State :=
  { s with rx := { s.rx with live := false, cursor := 0 } }

/-- `rx.slot[i]` (R34). -/
def rxSlot (s : State) (i : Nat) : Byte :=
  Memory.read Config.rxPowerOn s.rx.slots i

/-- The slots `0 .. rx.cursor`, in order: the data bytes and the terminal slot (R90). -/
def rxContents (s : State) : List Byte :=
  (List.range (s.rx.cursor + 1)).map (rxSlot s)

/-! ### The handler frame -/

/-- An event is deliverable to HANDLER (R93, R139). -/
def deliverable (s : State) : Bool :=
  ctrlInt s.ctrl && ctrlIe s.ctrl && s.gie

/-- `finish(c)`, the last act of every mapped transition (R94). -/
def finish (c : Byte) (s : State) : State :=
  s.writeCtrl c

/-- `finish(ctl(sta, sto, ea))` (R66, R94). -/
def finishCtl (sta sto ea : Bool) (s : State) : State :=
  finish (ctl s.ctrl sta sto ea) s

/-- `xfer_active <- b` (R38). -/
def setXfer (b : Bool) (s : State) : State :=
  { s with xferActive := b }

/-- `issue_stop()` (R95). -/
def issueStop (s : State) : State :=
  finishCtl false true s.cfg.ackEnable (setXfer false s)

/-- `last_error <- e` (R35). -/
def setError (e : CommError) (s : State) : State :=
  { s with lastError := e }

/-- `ack_latch <- l` (R36). -/
def setLatch (l : AckLatch) (s : State) : State :=
  { s with ackLatch := l }

/-- `direction <- d` (R31). -/
def setDirection (d : Direction) (s : State) : State :=
  { s with direction := d }

/-- `DATA <- tx_next()` (R58, R96, R110). -/
def loadNext (s : State) : State :=
  State.writeData (txAdvance s) (txNextByte s)

/-- `DATA <- SLA+R/W` (R67, R98). -/
def loadSla (s : State) : State :=
  s.writeData (slaByte s.target s.direction)

/-! ### Shared sub-transitions -/

/-- The start-sent action of R98 and R99. -/
def startSent (s : State) : State :=
  finishCtl false false s.cfg.ackEnable (loadSla s)

/-- `mt_data()` (R96). -/
def mtData (s : State) : State :=
  if txHasNext s then finishCtl false false s.cfg.ackEnable (loadNext s)
  else issueStop (txRelease s)

/-- `mr_ack()` (R97). -/
def mrAck (s : State) : State :=
  if rxFull s.rx then finishCtl false false false (rxSentinel s)
  else finishCtl false false true s

/-- `sr_addressed()` (R109). -/
def srAddressed (rxMax : Nat) (s : State) : State :=
  let s := setXfer true (setDirection .receive s)
  finishCtl false false true { s with rx := { s.rx with capacity := rxMax } }

/-- The slave-receive data action of R115 and R117. -/
def srData (s : State) : State :=
  let t := rxAppend s.data s
  finishCtl false false (!rxFull t.rx) t

/-- The slave-receive NACK action of R116 and R118. -/
def srNack (s : State) : State :=
  finishCtl false false false (setXfer false s)

/-- `st_data()` (R110). -/
def stData (s : State) : State :=
  if txHasNext s then finishCtl false false true (loadNext s)
  else finishCtl false false false s

/-- The slave-transmit address action of R120 and R121. -/
def stAddressed (s : State) : State :=
  let s := setXfer true (setDirection .transmit s)
  stData { s with tx := { s.tx with cursor := 0 } }

/-- The end of a slave transmit, R123 and R124. -/
def stEnd (s : State) : State :=
  finishCtl false false true (setXfer false (txRelease s))

/-- A class (c) error that ends in a stop (R135). -/
def failWith (e : CommError) (s : State) : State :=
  issueStop (setError e s)

/-! ### Marks, emissions and outcomes -/

/-- `emit(t)` (R138). -/
def emit (e : Emission) (s : State) : State :=
  { s with debugOut := s.debugOut ++ [e] }

/-- The unmapped-status transition for status code `code` (R127): one emission and nothing else. -/
def unmapped (code : Byte) (s : State) : State :=
  emit (.unmapped code) s

/-- The characters on the debug channel so far (R138). -/
def debugText (s : State) : List String :=
  s.debugOut.map Config.debugText

/-- `raise Fault(FILL_DURING_TRANSFER)` (R137). -/
def markFill (s : State) : State :=
  { s with faults := { s.faults with fillDuringTransfer := true } }

/-- `raise Fault(START_DURING_TRANSFER)` (R137). -/
def markStart (s : State) : State :=
  { s with faults := { s.faults with startDuringTransfer := true } }

/-- A call's outcome and the state it leaves. -/
abbrev CallEnd := CallOutcome × State

/-- `return r` (R9). -/
def returning (r : Result) (s : State) : CallEnd :=
  (.returned r, s)

/-- `raise Refuse(name)`: the operation does not happen, and the sticky mark is set (R9, R136). -/
def refusing (n : RefuseName) (s : State) : CallEnd :=
  (.refused n, { s with refused := true })

/-- The foreground operation ends: its outcome is handed to the application (R76). -/
def endCall (e : CallEnd) : State :=
  { e.2 with returns := e.2.returns ++ [e.1] }

end Sys2Proof.Machine
end

