-- ==== Sys2Proof/Machine/BusSetup.lean ====
section
/-! DEFINITION. Bus configuration and target addressing: `apply`, `default`, `set_target_address` (R82 to R85). -/

namespace Sys2Proof.Machine

/-- What `apply`'s checks decide about a configuration (R82). -/
inductive ApplyCheck where
  | refuse (n : RefuseName)
  | reject (r : Result)
  | accept (c : BusConfig) (d : Int)
  deriving DecidableEq, Repr

/-- A master mode with a divisor below `DIV_MIN` (R82). -/
def bitRateTooLow (m : Mode) (d : Int) : Bool :=
  decide (m ≠ .slave) && decide (d < Config.divMin)

/-- A master mode with a divisor that does not fit `BITRATE` (R82). -/
def divisorOverflows (m : Mode) (d : Int) : Bool :=
  decide (m ≠ .slave) && decide (255 < d)

/-- The checks of `apply` after those of the operands' ranges, for a mode `m` and a divisor `d` (R82). -/
def checkBus (c : ConfigArg) (m : Mode) (d : Int) : ApplyCheck :=
  if c.selfAddr < 1 ∨ 127 < c.selfAddr then .reject .selfAddressOutOfRange
  else if c.speed = 0 then .refuse .speedZero
  else if bitRateTooLow m d then .reject .bitRateTooLowForMaster
  else if Config.speedMax < c.speed then .reject .speedUnsupported
  else if divisorOverflows m d then .refuse .divisorOverflow
  else .accept (configOfArg c m) d

/-- The checks of `apply`, in the order of R82's pseudocode, so that the first failing check names the result. -/
def checkApply (fCpu : Nat) (c : ConfigArg) : ApplyCheck :=
  if 3 < c.prescaler then .refuse .prescalerRange
  else
    match modeOfNat c.mode with
    | none => .refuse .modeRange
    | some m => checkBus c m (divisor fCpu c.speed c.prescaler)

/-- `BITRATE <- d`, in the master modes only (R83). -/
def applyBitrate (m : Mode) (d : Int) (s : State) : State :=
  if m = .slave then s else s.writeReg .bitrate (BitVec.ofInt 8 d)

/-- The word a successful `apply` writes to `CTRL`: `INT`, `STA` and `STO` written 0 (R83). -/
def applyCtrl (c : BusConfig) : Byte :=
  ctrlWord false c.ackEnable false false c.activate c.irqEnable

/-- `apply_effects(c, d)` (R83). Disabling PERIPH ends its operation (R155), so its position becomes idle. -/
def applyEffects (c : BusConfig) (d : Int) (s : State) : State :=
  let s := { s with cfg := c, direction := directionOfMode c.mode }
  let s := s.writeReg .addr (ownAddressByte c.selfAddr c.gcEnable)
  let s := s.writeReg .status (c.prescaler.zeroExtend 8)
  let s := applyBitrate c.mode d s
  let s := s.writeReg .ctrl (applyCtrl c)
  { s with gie := c.irqEnable, busIdle := s.busIdle || !c.activate }

/-- `apply(c)` with the clock `fCpu` (R82). -/
def applyOp (fCpu : Nat) (c : ConfigArg) (s : State) : CallEnd :=
  match checkApply fCpu c with
  | .refuse n => refusing n s
  | .reject r => returning r s
  | .accept cfg d => returning .ok (applyEffects cfg d s)

/-- `set_target_address(addr)` (R85). -/
def setTargetOp (addr : Nat) (s : State) : CallEnd :=
  if 127 < addr then returning .addressOutOfRange s
  else if addr = s.cfg.selfAddr.toNat then returning .selfAddressingNotAllowed s
  else if s.cfg.mode = .slave then returning .notPermittedInSlaveMode s
  else returning .ok { s with target := BitVec.ofNat 7 addr }

/-- The call `apply(c)` (R82). -/
def execApply (c : ConfigArg) (s : State) : Host.Outcome State Fault Refusal :=
  .next (endCall (applyOp Config.fCpu c s))

/-- The call `default()`: it returns the profile and applies nothing (R84). -/
def execDefaultConfig (s : State) : Host.Outcome State Fault Refusal :=
  .next (endCall (returning (.okConfig defaultProfile) s))

/-- The call `set_target_address(addr)` (R85). -/
def execSetTargetAddress (addr : Nat) (s : State) : Host.Outcome State Fault Refusal :=
  .next (endCall (setTargetOp addr s))

end Sys2Proof.Machine
end

