-- ==== Sys2Proof/Machine/Transfer.lean ====
section
/-! DEFINITION. Transfer lifecycle: filling, starting, stopping, retrieving and flushing (R86 to R92). -/

namespace Sys2Proof.Machine

/-- `fill_transmit(bs)` with an arena of `txMax` bytes (R86). -/
def fillOp (txMax : Nat) (bs : List Byte) (s : State) : CallEnd :=
  if s.cfg.mode = .masterReceive then returning .notInTransmitRole s
  else if txMax < bs.length then refusing .txTooLong s
  else returning .ok (txFill bs (if s.xferActive then markFill s else s))

/-- `set_receive_capacity(n)` with an arena of `rxMax` data bytes (R87). -/
def setCapacityOp (rxMax n : Nat) (s : State) : CallEnd :=
  if rxMax < n then refusing .rxCapacity s
  else returning .ok { s with rx := { s.rx with capacity := n } }

/-- `start()` (R88). -/
def startOp (s : State) : CallEnd :=
  if s.cfg.activate then
    if s.cfg.mode = .slave then returning .notPermittedInSlaveMode s
    else
      let s := if s.xferActive then markStart s else s
      returning .ok (setXfer true (finishCtl true false s.cfg.ackEnable s))
  else returning .notActivated s

/-- `stop()` (R89). -/
def stopOp (s : State) : CallEnd :=
  returning .ok (setXfer false (txRelease (finishCtl false true s.cfg.ackEnable s)))

/-- `get_received()` (R90). -/
def getReceivedOp (s : State) : CallEnd :=
  if 0 < s.rx.cursor ∧ rxSlot s s.rx.cursor = Config.sentinel then returning (.okBytes (rxContents s)) s
  else returning .noDataYet s

/-- `flush_receive()` (R91). -/
def flushReceiveOp (s : State) : CallEnd :=
  if s.rx.live then returning .ok (rxRelease s) else returning .nothingToFlush s

/-- `flush_transmit()` (R92). -/
def flushTransmitOp (s : State) : CallEnd :=
  if s.tx.live then returning .ok (txRelease s) else returning .nothingToFlush s

/-- The call `fill_transmit(bs)` (R86). -/
def execFillTransmit (bs : List Byte) (s : State) : Host.Outcome State Fault Refusal :=
  .next (endCall (fillOp Config.txMax bs s))

/-- The call `set_receive_capacity(n)` (R87). -/
def execSetReceiveCapacity (n : Nat) (s : State) : Host.Outcome State Fault Refusal :=
  .next (endCall (setCapacityOp Config.rxMax n s))

/-- The call `start()` (R88). -/
def execStart (s : State) : Host.Outcome State Fault Refusal :=
  .next (endCall (startOp s))

/-- The call `stop()` (R89). -/
def execStop (s : State) : Host.Outcome State Fault Refusal :=
  .next (endCall (stopOp s))

/-- The call `get_received()` (R90). -/
def execGetReceived (s : State) : Host.Outcome State Fault Refusal :=
  .next (endCall (getReceivedOp s))

/-- The call `flush_receive()` (R91). -/
def execFlushReceive (s : State) : Host.Outcome State Fault Refusal :=
  .next (endCall (flushReceiveOp s))

/-- The call `flush_transmit()` (R92). -/
def execFlushTransmit (s : State) : Host.Outcome State Fault Refusal :=
  .next (endCall (flushTransmitOp s))

end Sys2Proof.Machine
end

