-- ==== Sys2Proof/Machine/Discovery.lean ====
section
/-! DEFINITION. The discovery service: `discover`, one atomic foreground step per numbered line of R128, and `report`. -/

namespace Sys2Proof.Machine

/-- The discovery context at the end of line 1 (R128). -/
def discoveryStart : Discovery where
  line := .loopHead
  a := 0
  seen := Vector.replicate 128 false
  any := false

/-- Line 1 of `discover()`: `apply(default())`, whose failure ends the call (R128). -/
def discoverBegin (fCpu : Nat) (s : State) : State :=
  match applyOp fCpu defaultProfile.toArg s with
  | (.returned .ok, t) => { t with disc := some discoveryStart }
  | e => endCall e

/-- The label `next` of R128: line 7 after address 127, else line 2 for the next address. -/
def discoverNext (d : Discovery) (s : State) : State :=
  if d.a.val = 127 then { s with disc := some { d with line := .commit } }
  else { s with disc := some { d with a := d.a + 1, line := .loopHead } }

/-- `discover` notes address `a` present or absent (lines 2 and 6 of R128). -/
def discoverMark (present : Bool) (d : Discovery) : Discovery :=
  { d with seen := d.seen.set d.a.val present, any := d.any || present }

/-- Line 7 of `discover()` (R128). -/
def discoverCommit (d : Discovery) (s : State) : State :=
  endCall (returning (if d.any then .ok else .noDevicesFound)
    { s with
      found := d.seen
      direction := .unknown
      discoveredOk := s.discoveredOk || d.any
      disc := none })

/-- One atomic foreground step of a `discover` in progress (R128, R130). The results of lines 3 and 4 are not read. -/
def discoverStep (d : Discovery) (s : State) : State :=
  match d.line with
  | .loopHead =>
    if d.a.val = s.cfg.selfAddr.toNat then discoverNext (discoverMark false d) s
    else { s with disc := some { d with line := .setTarget } }
  | .setTarget => { (setTargetOp d.a.val s).2 with disc := some { d with line := .startProbe } }
  | .startProbe => { (startOp s).2 with disc := some { d with line := .poll } }
  | .poll =>
    match s.ackLatch with
    | .unset => { s with disc := some { d with line := .poll } }
    | .positive => { s with disc := some { d with line := .record .positive } }
    | .negative => { s with disc := some { d with line := .record .negative } }
  | .record l => discoverNext (discoverMark (decide (l = .positive)) d) (setLatch .unset s)
  | .commit => discoverCommit d s

/-- The emissions of one row of the report grid (R131). -/
def reportRow (found : Vector Bool 128) (row : Nat) : List Emission :=
  (List.range 16).map (fun col => Emission.glyph (found.getD (16 * row + col) false)) ++ [.rowEnd]

/-- The emissions of `report()`: 8 rows of 16 columns (R131). -/
def reportGrid (found : Vector Bool 128) : List Emission :=
  (List.range 8).flatMap (reportRow found)

/-- `report()` (R131). -/
def reportOp (s : State) : CallEnd :=
  if s.discoveredOk then returning .ok { s with debugOut := s.debugOut ++ reportGrid s.found }
  else returning .notDiscoveredYet s

/-- The call `discover()`: its line 1; the lines after it are the foreground's next steps (R128). -/
def execDiscover (s : State) : Host.Outcome State Fault Refusal :=
  .next (discoverBegin Config.fCpu s)

/-- The call `report()` (R131). -/
def execReport (s : State) : Host.Outcome State Fault Refusal :=
  .next (endCall (reportOp s))

end Sys2Proof.Machine
end

