-- ==== Sys2Proof/Machine/Master.lean ====
section
/-! DEFINITION. The master-side transitions (R98 to R108). -/

namespace Sys2Proof.Machine

/-- 0x08, START transmitted (R98). -/
def execStatus08 (s : State) : Host.Outcome State Fault Refusal :=
  .next (startSent s)

/-- 0x10, repeated START transmitted (R99). -/
def execStatus10 (s : State) : Host.Outcome State Fault Refusal :=
  .next (startSent s)

/-- 0x18, SLA+W transmitted, ACK received (R100). -/
def execStatus18 (s : State) : Host.Outcome State Fault Refusal :=
  .next (mtData (setLatch .positive s))

/-- 0x20, SLA+W transmitted, NACK received (R101). -/
def execStatus20 (s : State) : Host.Outcome State Fault Refusal :=
  .next (failWith .addressNotAcknowledged (setLatch .negative s))

/-- 0x28, data transmitted, ACK received (R102). -/
def execStatus28 (s : State) : Host.Outcome State Fault Refusal :=
  .next (mtData s)

/-- 0x30, data transmitted, NACK received (R103). -/
def execStatus30 (s : State) : Host.Outcome State Fault Refusal :=
  .next (failWith .dataNotAcknowledged s)

/-- 0x38, arbitration lost: the start is requested again (R104). -/
def execStatus38 (s : State) : Host.Outcome State Fault Refusal :=
  .next (finishCtl true false s.cfg.ackEnable (setError .arbitrationLost s))

/-- 0x40, SLA+R transmitted, ACK received (R105). -/
def execStatus40 (s : State) : Host.Outcome State Fault Refusal :=
  .next (mrAck s)

/-- 0x48, SLA+R transmitted, NACK received (R106). -/
def execStatus48 (s : State) : Host.Outcome State Fault Refusal :=
  .next (failWith .addressNotAcknowledged s)

/-- 0x50, data received, ACK returned (R107). -/
def execStatus50 (s : State) : Host.Outcome State Fault Refusal :=
  .next (mrAck (rxAppend s.data s))

/-- 0x58, data received, NACK returned (R108). -/
def execStatus58 (s : State) : Host.Outcome State Fault Refusal :=
  .next (failWith .dataNotAcknowledged s)

end Sys2Proof.Machine
end

