-- ==== Sys2Proof/Machine/Slave.lean ====
section
/-! DEFINITION. The slave-side transitions, the bus error, "no information" and the unmapped codes (R111 to R127). -/

namespace Sys2Proof.Machine

/-- 0x60, own SLA+W received, ACK returned (R111). -/
def execStatus60 (s : State) : Host.Outcome State Fault Refusal :=
  .next (srAddressed Config.rxMax s)

/-- 0x68, arbitration lost, then own SLA+W received (R112). -/
def execStatus68 (s : State) : Host.Outcome State Fault Refusal :=
  .next (srAddressed Config.rxMax s)

/-- 0x70, general call received, ACK returned (R113). -/
def execStatus70 (s : State) : Host.Outcome State Fault Refusal :=
  .next (srAddressed Config.rxMax s)

/-- 0x78, arbitration lost, then general call received (R114). -/
def execStatus78 (s : State) : Host.Outcome State Fault Refusal :=
  .next (srAddressed Config.rxMax s)

/-- 0x80, data received for own SLA+W, ACK returned (R115). -/
def execStatus80 (s : State) : Host.Outcome State Fault Refusal :=
  .next (srData s)

/-- 0x88, data received for own SLA+W, NACK returned (R116). -/
def execStatus88 (s : State) : Host.Outcome State Fault Refusal :=
  .next (srNack s)

/-- 0x90, data received for the general call, ACK returned (R117). -/
def execStatus90 (s : State) : Host.Outcome State Fault Refusal :=
  .next (srData s)

/-- 0x98, data received for the general call, NACK returned (R118). -/
def execStatus98 (s : State) : Host.Outcome State Fault Refusal :=
  .next (srNack s)

/-- 0xA0, STOP or repeated START received while addressed (R119). -/
def execStatusA0 (s : State) : Host.Outcome State Fault Refusal :=
  .next (finishCtl false false true (setXfer false (if s.rx.cursor < s.rx.capacity then rxSentinel s else s)))

/-- 0xA8, own SLA+R received, ACK returned (R120). -/
def execStatusA8 (s : State) : Host.Outcome State Fault Refusal :=
  .next (stAddressed s)

/-- 0xB0, arbitration lost, then own SLA+R received (R121). -/
def execStatusB0 (s : State) : Host.Outcome State Fault Refusal :=
  .next (stAddressed s)

/-- 0xB8, data transmitted as slave, ACK received (R122). -/
def execStatusB8 (s : State) : Host.Outcome State Fault Refusal :=
  .next (stData s)

/-- 0xC0, data transmitted as slave, NACK received (R123). -/
def execStatusC0 (s : State) : Host.Outcome State Fault Refusal :=
  .next (stEnd s)

/-- 0xC8, last data byte transmitted, ACK received (R124). -/
def execStatusC8 (s : State) : Host.Outcome State Fault Refusal :=
  .next (stEnd s)

/-- 0x00, bus error (R125). -/
def execStatus00 (s : State) : Host.Outcome State Fault Refusal :=
  .next (failWith .illegalStartOrStop s)

/-- 0xF8, no information: only the pending event is cleared (R126). -/
def execStatusF8 (s : State) : Host.Outcome State Fault Refusal :=
  .next (finish ((s.ctrl &&& 0x7F#8) ||| 0x80#8) s)

/-- 0xD0, unmapped (R127). -/
def execStatusD0 (s : State) : Host.Outcome State Fault Refusal :=
  .next (unmapped 0xD0#8 s)

/-- 0xD8, unmapped (R127). -/
def execStatusD8 (s : State) : Host.Outcome State Fault Refusal :=
  .next (unmapped 0xD8#8 s)

/-- 0xE0, unmapped (R127). -/
def execStatusE0 (s : State) : Host.Outcome State Fault Refusal :=
  .next (unmapped 0xE0#8 s)

/-- 0xE8, unmapped (R127). -/
def execStatusE8 (s : State) : Host.Outcome State Fault Refusal :=
  .next (unmapped 0xE8#8 s)

/-- 0xF0, unmapped (R127). -/
def execStatusF0 (s : State) : Host.Outcome State Fault Refusal :=
  .next (unmapped 0xF0#8 s)

end Sys2Proof.Machine
end

