-- ==== Sys2Proof/Machine/Dispatch.lean ====
section
/-! DEFINITION. One arm per instruction: 32 transitions of the engine and 12 foreground operations. -/

namespace Sys2Proof.Machine

def exec (i : Instr) (s : State) : Host.Outcome State Fault Refusal :=
  match i with
  | .status00 => Sys2Proof.Machine.execStatus00 s
  | .status08 => Sys2Proof.Machine.execStatus08 s
  | .status10 => Sys2Proof.Machine.execStatus10 s
  | .status18 => Sys2Proof.Machine.execStatus18 s
  | .status20 => Sys2Proof.Machine.execStatus20 s
  | .status28 => Sys2Proof.Machine.execStatus28 s
  | .status30 => Sys2Proof.Machine.execStatus30 s
  | .status38 => Sys2Proof.Machine.execStatus38 s
  | .status40 => Sys2Proof.Machine.execStatus40 s
  | .status48 => Sys2Proof.Machine.execStatus48 s
  | .status50 => Sys2Proof.Machine.execStatus50 s
  | .status58 => Sys2Proof.Machine.execStatus58 s
  | .status60 => Sys2Proof.Machine.execStatus60 s
  | .status68 => Sys2Proof.Machine.execStatus68 s
  | .status70 => Sys2Proof.Machine.execStatus70 s
  | .status78 => Sys2Proof.Machine.execStatus78 s
  | .status80 => Sys2Proof.Machine.execStatus80 s
  | .status88 => Sys2Proof.Machine.execStatus88 s
  | .status90 => Sys2Proof.Machine.execStatus90 s
  | .status98 => Sys2Proof.Machine.execStatus98 s
  | .statusA0 => Sys2Proof.Machine.execStatusA0 s
  | .statusA8 => Sys2Proof.Machine.execStatusA8 s
  | .statusB0 => Sys2Proof.Machine.execStatusB0 s
  | .statusB8 => Sys2Proof.Machine.execStatusB8 s
  | .statusC0 => Sys2Proof.Machine.execStatusC0 s
  | .statusC8 => Sys2Proof.Machine.execStatusC8 s
  | .statusD0 => Sys2Proof.Machine.execStatusD0 s
  | .statusD8 => Sys2Proof.Machine.execStatusD8 s
  | .statusE0 => Sys2Proof.Machine.execStatusE0 s
  | .statusE8 => Sys2Proof.Machine.execStatusE8 s
  | .statusF0 => Sys2Proof.Machine.execStatusF0 s
  | .statusF8 => Sys2Proof.Machine.execStatusF8 s
  | .apply c => Sys2Proof.Machine.execApply c s
  | .defaultConfig => Sys2Proof.Machine.execDefaultConfig s
  | .setTargetAddress addr => Sys2Proof.Machine.execSetTargetAddress addr s
  | .fillTransmit bs => Sys2Proof.Machine.execFillTransmit bs s
  | .setReceiveCapacity n => Sys2Proof.Machine.execSetReceiveCapacity n s
  | .start => Sys2Proof.Machine.execStart s
  | .stop => Sys2Proof.Machine.execStop s
  | .getReceived => Sys2Proof.Machine.execGetReceived s
  | .flushReceive => Sys2Proof.Machine.execFlushReceive s
  | .flushTransmit => Sys2Proof.Machine.execFlushTransmit s
  | .discover => Sys2Proof.Machine.execDiscover s
  | .report => Sys2Proof.Machine.execReport s

end Sys2Proof.Machine
end

