-- ==== Sys2Proof/Machine/Peripheral.lean ====
section
/-! DEFINITION. The peripheral agent: its event step (R144), its stop step (R145) and the datasheet's limits (R146). -/

namespace Sys2Proof.Machine

/-- The codes with which a byte was received, so that PERIPH leaves it in `DATA` (R144). -/
def byteReceived (code : Byte) : Bool :=
  [0x50#8, 0x58#8, 0x80#8, 0x88#8, 0x90#8, 0x98#8].contains code

/-- The status codes the datasheet's peripheral never presents with `INT = 1` (R146). -/
def neverPresented (code : Byte) : Bool :=
  [0xD0#8, 0xD8#8, 0xE0#8, 0xE8#8, 0xF0#8, 0xF8#8].contains code

/-- The codes that report the block addressed as a slave: by its own address with W, by the general call, by its own
address with R, and the same after lost arbitration (R72). -/
def addressCode (code : Byte) : Bool :=
  [0x60#8, 0x68#8, 0x70#8, 0x78#8, 0xA8#8, 0xB0#8].contains code

/-- The codes of a slave transfer in progress, which only a block already addressed is shown (R72). -/
def slaveTransferCode (code : Byte) : Bool :=
  [0x80#8, 0x88#8, 0x90#8, 0x98#8, 0xA0#8, 0xB8#8, 0xC0#8, 0xC8#8].contains code

/-- PERIPH answers its own address only while `EA = 1`, and the general call only with `ADDR.GCE = 1` as well (R19, R113,
R158, R168). R146 repeats these conditions in some rows and leaves them out in others: they hold in all (DEDUCED, log 17). -/
def mayBeAddressed (code : Byte) (s : State) : Bool :=
  ctrlEa s.ctrl && (s.addr.getLsbD 0 || !([0x70#8, 0x78#8].contains code))

/-- The codes of R146's rows "any master state", which do not list them: the last code says that the block is master of
the bus. 0x38 is left out, since it says that the bus is lost (DESIGN CHOICE, log 15). -/
def masterState (code : Byte) : Bool :=
  [0x08#8, 0x10#8, 0x18#8, 0x20#8, 0x28#8, 0x30#8, 0x40#8, 0x48#8, 0x50#8, 0x58#8].contains code

/-- What PERIPH presents while the block is not addressed: an address match, a bus error, and 0x08 if a START is
requested (R146, its rows for idle, for 0x38 and for 0x88/0x98/0xA0/0xC0/0xC8). The rows' conditions `EA` and `GCE` are
`mayBeAddressed`. -/
def notAddressedRow (s : State) : List Byte :=
  [0x60#8, 0x70#8, 0xA8#8, 0x00#8] ++ (if ctrlSta s.ctrl then [0x08#8] else [])

/-- The row of R146 for the last code presented and the control bits the block left; `none` where no row applies. Where
rows overlap the first here wins: idle, then `STO`, then `STA` in a master state, then the last code; and idle with
`STA = 0`, which R146 does not list, is the row of a block not addressed (DESIGN CHOICE, log 16). -/
def datasheetRow (s : State) : Option (List Byte) :=
  let last := statusCode s.status
  let ea := ctrlEa s.ctrl
  let sta := ctrlSta s.ctrl
  if s.busIdle then some (notAddressedRow s)
  else if masterState last && ctrlSto s.ctrl then some []
  else if masterState last && sta then some [0x10#8]
  else if [0x08#8, 0x10#8].contains last then
    if s.data.getLsbD 0 then some [0x40#8, 0x48#8, 0x38#8, 0x68#8, 0x78#8, 0xB0#8, 0x00#8]
    else some [0x18#8, 0x20#8, 0x38#8, 0x68#8, 0x78#8, 0xB0#8, 0x00#8]
  else if [0x18#8, 0x28#8].contains last then some [0x28#8, 0x30#8, 0x38#8, 0x00#8]
  else if last = 0x38#8 then
    if sta then some (notAddressedRow s) else none
  else if [0x40#8, 0x50#8].contains last then
    some (if ea then [0x50#8, 0x38#8, 0x00#8] else [0x58#8, 0x38#8, 0x00#8])
  else if [0x60#8, 0x68#8, 0x80#8].contains last then
    some (if ea then [0x80#8, 0xA0#8, 0x00#8] else [0x88#8, 0xA0#8, 0x00#8])
  else if [0x70#8, 0x78#8, 0x90#8].contains last then
    some (if ea then [0x90#8, 0xA0#8, 0x00#8] else [0x98#8, 0xA0#8, 0x00#8])
  else if [0x88#8, 0x98#8, 0xA0#8, 0xC0#8, 0xC8#8].contains last then some (notAddressedRow s)
  else if [0xA8#8, 0xB0#8, 0xB8#8].contains last then
    some (if ea then [0xB8#8, 0xC0#8, 0x00#8] else [0xC0#8, 0xC8#8, 0x00#8])
  else none

/-- PERIPH may present `code` in this state: any code under `free`; under `datasheet` one of R146's row that the block's
`EA` and `GCE` allow. Where R146 has no row the block is not addressed, so that no code of a slave transfer comes, and every
other code that R146 does not exclude outright is admitted (DESIGN CHOICE, log 9 and 17). -/
def periphAdmits (m : PeriphModel) (code : Byte) (s : State) : Bool :=
  match m with
  | .free => true
  | .datasheet =>
    !neverPresented code && (!addressCode code || mayBeAddressed code s) &&
      match datasheetRow s with
      | some codes => codes.contains code
      | none => !slaveTransferCode code

/-- PERIPH has an event step (R144, R20). -/
def periphEnabled (s : State) : Bool :=
  ctrlEn s.ctrl && !ctrlInt s.ctrl

/-- The status code of a field `STATUS.S` (R65). -/
def codeOfField (f : StatusField) : Byte :=
  f.zeroExtend 8 <<< 3

/-- `periph_event()` with the draws `f` and `d` (R144); without the step's guard, or with a code the peripheral model
does not admit, PERIPH has no such step and nothing changes. -/
def periphEvent (m : PeriphModel) (f : StatusField) (d : Byte) (s : State) : State :=
  if periphEnabled s && periphAdmits m (codeOfField f) s then
    { s with
      status := statusSetCode s.status f
      data := if byteReceived (codeOfField f) then d else s.data
      ctrl := ctrlSetInt s.ctrl
      busIdle := false }
  else s

/-- PERIPH executes a pending stop: `STO` is cleared and no event is raised (R145); without a pending stop it has no
such step and nothing changes. -/
def periphStop (s : State) : State :=
  if ctrlSto s.ctrl && ctrlEn s.ctrl then { s with ctrl := ctrlClearSto s.ctrl, busIdle := true }
  else s

end Sys2Proof.Machine
end

