-- ==== Sys2Proof/Machine/Schedule.lean ====
section
/-! DEFINITION. Whose step is next, what each agent's step is, and how a table word is placed where it is fetched. -/

namespace Sys2Proof.Machine

/-- The next move and the state with it taken from the schedule; past the schedule's end the move is free (R140). -/
def nextMove (s : State) : Move × State :=
  match s.sched with
  | m :: rest => (m, { s with sched := rest })
  | [] => (Config.freeMove s.tick, { s with tick := s.tick + 1 })

/-- FG fetches its next call. A call with an unknown selector is refused by name, and its one byte is passed
(R73, R136; log 11). A finished program has no step (R153). -/
def fgCall (s : State) : Host.Outcome State Fault Refusal :=
  match s.program with
  | [] => .next s
  | sel :: args =>
    match decodeCall (sel :: args) with
    | .ok (i, rest) => exec i { s with program := rest }
    | .error .unknownSelector => .next (endCall (refusing .unknownSelector { s with program := args }))
    | .error .truncated => .fault .truncatedCall

/-- FG's next atomic step: the next line of a `discover` in progress, else the next call (R10, R128). -/
def fgStep (s : State) : Host.Outcome State Fault Refusal :=
  match s.disc with
  | some d => .next (discoverStep d s)
  | none => fgCall s

/-- HANDLER's step: the transition of the status code, if an event is deliverable; else HANDLER has no step (R93). -/
def handlerStep (s : State) : Host.Outcome State Fault Refusal :=
  if deliverable s then exec (decodeStatus s.status) s else .next s

/-- The step of the agent that a move names (R52). -/
def runMove (m : Move) (s : State) : Host.Outcome State Fault Refusal :=
  match m with
  | .fg => fgStep s
  | .handler => handlerStep s
  | .event f d => .next (periphEvent Config.periphModel f d s)
  | .stopDone => .next (periphStop s)

/-- One step of the machine: the step of the agent whose move is next. -/
def stepMove (s : State) : Host.Outcome State Fault Refusal :=
  runMove (nextMove s).1 (nextMove s).2

/-- A status byte placed in `STATUS` as a deliverable event, with HANDLER's move next. -/
def placeStatus (s : State) (b : Byte) : State :=
  { s with status := b &&& 0xFB#8, ctrl := s.ctrl ||| 0x81#8, gie := true, sched := .handler :: s.sched }

/-- Call bytes placed as FG's program, with no `discover` in progress and FG's move next. -/
def placeCall (s : State) (bs : List Byte) : State :=
  { s with program := bs, disc := none, sched := .fg :: s.sched }

/-- A table word placed where the agent that reads its format fetches next (log 1, 6). -/
def placeWord (s : State) (nbits w : Nat) : State :=
  match tableFormat nbits w with
  | .status => placeStatus s (BitVec.ofNat 8 w)
  | .call => placeCall s (tableCall nbits w)

end Sys2Proof.Machine
end

