-- ==== Sys2Proof/Machine/Step.lean ====
section
/-! DEFINITION. The step, and the placing of one instruction where the next step fetches it. -/

namespace Sys2Proof.Machine

/-- One atomic step of one agent (R10, R52). -/
def step (s : State) : Host.Outcome State Fault Refusal :=
  stepMove s

/-- `s` with the opcode table's word `w` of `nbits` bits placed where the very next step fetches it. -/
def State.withFetchWord (s : State) (nbits w : Nat) : State :=
  placeWord s nbits w

end Sys2Proof.Machine
end

