-- ==== Sys2Proof/Safety.lean ====
section
/-! DEFINITION. What counts as a clean run, and the invariant of the machine, in the terms the claims use. -/

namespace Sys2Proof.Machine

/-- The premise of every claim about a run: no refusal and no fault has been marked (R136, R137). -/
def State.clean (s : State) : Bool :=
  !s.refused && !s.faults.fillDuringTransfer && !s.faults.startDuringTransfer

/-- The transmit buffer's invariants, for an arena of `txMax` bytes (R33). -/
structure TxInv (txMax : Nat) (tx : TxBuffer) : Prop where
  cursor_le : tx.cursor ≤ tx.len
  len_le    : tx.len ≤ txMax
  dead      : tx.live = false → tx.len = 0 ∧ tx.cursor = 0
  arena     : Memory.wf txMax tx.bytes

/-- The receive buffer's invariants, for `rxMax` data bytes and one more slot (R34). -/
structure RxInv (rxMax : Nat) (rx : RxBuffer) : Prop where
  cursor_le   : rx.cursor ≤ rxMax
  capacity_le : rx.capacity ≤ rxMax
  dead        : rx.live = false → rx.cursor = 0
  arena       : Memory.wf (rxMax + 1) rx.slots

/-- A configuration that `apply` accepted with the clock `fCpu` (R7, R29). -/
structure ConfigOk (fCpu : Nat) (c : BusConfig) : Prop where
  self    : c.selfAddr ≠ 0#7
  speed   : 0 < c.speed ∧ c.speed ≤ 400000
  divisor : c.mode ≠ .slave → 10 ≤ divisor fCpu c.speed c.prescaler.toNat ∧ divisor fCpu c.speed c.prescaler.toNat ≤ 255

/-- The registers agree with the configuration that is active: the reset configuration with the reset registers, or one
that `apply` accepted with what `apply` wrote (R43, R83). -/
structure RegInv (fCpu : Nat) (s : State) : Prop where
  enable    : ctrlEn s.ctrl = s.cfg.activate
  irq       : ctrlIe s.ctrl = s.cfg.irqEnable
  global    : s.gie = s.cfg.irqEnable
  prescaler : s.status &&& 0x03#8 = s.cfg.prescaler.zeroExtend 8
  config    : (s.cfg = BusConfig.reset ∧ s.addr = 0xFE#8) ∨
    (ConfigOk fCpu s.cfg ∧ s.addr = ownAddressByte s.cfg.selfAddr s.cfg.gcEnable)
  bitrate   : s.cfg.mode ≠ .slave → (s.bitrate.toNat : Int) = divisor fCpu s.cfg.speed s.cfg.prescaler.toNat

/-- The reserved bits hold 0, `WC` has never been set and `AMR` is 0x00 (R19, R23, R27, R180). -/
structure ReservedInv (s : State) : Prop where
  ctrlBit1   : s.ctrl.getLsbD 1 = false
  collision  : ctrlWc s.ctrl = false
  statusBit2 : s.status.getLsbD 2 = false
  mask       : s.amr = 0x00#8

/-- While a `discover` is in progress the default profile is active, and lines 3 and 4 never stand at the self address,
so that neither can fail (R128). -/
structure DiscInv (s : State) (d : Discovery) : Prop where
  profile : s.cfg = defaultProfile
  probed  : d.line = .setTarget ∨ d.line = .startProbe ∨ d.line = .poll → d.a.val ≠ 0x70

/-- The invariant of the machine. -/
structure StateInv (s : State) : Prop where
  tx       : TxInv Config.txMax s.tx
  rx       : RxInv Config.rxMax s.rx
  regs     : RegInv Config.fCpu s
  reserved : ReservedInv s
  disc     : ∀ d, s.disc = some d → DiscInv s d

/-! ### The terms of the statements -/

/-- `m` is the move that `s` takes next and `t` is `s` with that move used up: the schedule's first move, or, where the
schedule is empty, the next free move. -/
def MoveIs (s : State) (m : Move) (t : State) : Prop :=
  (∃ rest, s.sched = m :: rest ∧ t = { s with sched := rest }) ∨
    (s.sched = [] ∧ m = Config.freeMove s.tick ∧ t = { s with tick := s.tick + 1 })

/-- The acknowledge bit of `CTRL` that the active configuration asks for. -/
def ackBit (s : State) : Byte :=
  if s.cfg.ackEnable then 0x40#8 else 0x00#8

/-- `s` after a call that ended with outcome `o` and changed nothing else. -/
def withOutcome (o : CallOutcome) (s : State) : State :=
  { s with returns := s.returns ++ [o] }

/-- `s` after a call that was refused: the sticky mark, the outcome, and nothing else (R136). -/
def withRefusal (n : RefuseName) (s : State) : State :=
  { s with refused := true, returns := s.returns ++ [.refused n] }

/-- The slots of the receive arena that an instruction stores to in state `s`. -/
def storedSlots (i : Instr) (s : State) : List Nat :=
  let rx := rxAlloc s.rx
  match i with
  | .status40 => if s.rx.live ∧ s.rx.capacity ≤ s.rx.cursor then [s.rx.cursor] else []
  | .status50 =>
    if rx.cursor + 1 < rx.capacity then [rx.cursor]
    else if rx.cursor < rx.capacity then [rx.cursor, rx.cursor + 1]
    else [rx.cursor]
  | .status80 =>
    if rx.cursor + 1 < rx.capacity then [rx.cursor]
    else if rx.cursor < rx.capacity then [rx.cursor, rx.cursor + 1]
    else []
  | .status90 =>
    if rx.cursor + 1 < rx.capacity then [rx.cursor]
    else if rx.cursor < rx.capacity then [rx.cursor, rx.cursor + 1]
    else []
  | .statusA0 => if s.rx.live ∧ s.rx.cursor < s.rx.capacity then [s.rx.cursor] else []
  | _ => []

/-- How many slots of the transmit arena, from slot 0 up, an instruction stores to in state `s`. -/
def filledSlots (i : Instr) (s : State) : Nat :=
  match i with
  | .fillTransmit bs =>
    if s.cfg.mode = .masterReceive ∨ Config.txMax < bs.length then 0 else bs.length
  | _ => 0

/-- The five codes of R127, which have no transition of their own. -/
def isUnmapped : Instr → Bool
  | .statusD0 => true
  | .statusD8 => true
  | .statusE0 => true
  | .statusE8 => true
  | .statusF0 => true
  | _ => false

/-- The moves of one probe of a bus on which address `a` acknowledges iff `answer`: lines 2 to 4 of `discover`, START
sent, the address answered, the stop executed, lines 5 and 6. `x` and `y` are the bytes drawn with the two events. -/
def probeMoves (answer : Bool) (x y : Byte) : List Move :=
  [.fg, .fg, .fg, .event 0x01#5 x, .handler, .event (if answer then 0x03#5 else 0x04#5) y, .handler, .stopDone, .fg, .fg]

/-- The moves with which a bus whose acknowledging addresses are given by `answers` serves a whole scan from address `a`
up, `n` addresses long: the self address 0x70 takes one foreground step and no probe. -/
def scanMoves (answers : Nat → Bool) (draws : Nat → Byte) : Nat → Nat → List Move
  | _, 0 => []
  | a, n + 1 =>
    (if a = 0x70 then [.fg] else probeMoves (answers a) (draws (2 * a)) (draws (2 * a + 1))) ++
      scanMoves answers draws (a + 1) n

/-- The machine after `n` steps, if none of them stops it. -/
def runs : Nat → State → Option State
  | 0, s => some s
  | n + 1, s =>
    match step s with
    | .next t => runs n t
    | .fault _ => none
    | .refused _ => none

/-! ### Infinite runs and the fairness of R147 -/

/-- `r` is a run that no fault or refusal ends: each state is the step of the one before. -/
def IsRun (r : Nat → State) : Prop :=
  ∀ n, step (r n) = .next (r (n + 1))

/-- HANDLER is weakly fair in the run `r`: an event that stays deliverable is delivered, that is, after every point with a
deliverable event comes one where HANDLER moves or where no event is deliverable any more (R147, D26). This is the premise
of a claim that something happens; nothing of the kind is said of PERIPH (R147), nor needed of a claim about one step. -/
def HandlerFair (r : Nat → State) : Prop :=
  ∀ n, deliverable (r n) = true → ∃ k, n ≤ k ∧ (deliverable (r k) = false ∨ (nextMove (r k)).1 = .handler)

end Sys2Proof.Machine
end

