-- ==== Sys2Proof/Certificates/Slice0/Obligations.lean ====
section
/-! DEFINITION. The statements for the provers. Each formalises rules of spec/; `exec i s = .next { s with … }` states an
instruction's completion, its result and its frame at once, since every field not named keeps its value. -/

open Sys2Proof Sys2Proof.Machine

/-! ### Encoding and decoding -/

/-- R75: a call decodes back from its bytes, with every operand, whatever call bytes follow. -/
def Obligations.CallEncodingRoundTrips : Prop :=
  ∀ (i : Instr) (rest : List Byte), i.isCall = true → i.wellFormed = true →
    decodeCall (encode i ++ rest) = .ok (i, rest)

/-- R65, R71: `STATUS` decodes under the mask 0xF8, every byte names a status code and no call, and the code is the byte's
upper five bits; every status code is reached by its own byte. -/
def Obligations.StatusDecodingIsTotalUnderTheMask : Prop :=
  (∀ b : Byte, decodeStatus b = decodeStatus (b &&& 0xF8#8) ∧ (decodeStatus b).isCall = false ∧
      encode (decodeStatus b) = [b &&& 0xF8#8]) ∧
    ∀ i : Instr, i.isCall = false → ∃ b : Byte, encode i = [b] ∧ b &&& 0xF8#8 = b ∧ decodeStatus b = i

/-- R72, R75: words written out from the encoding tables. -/
def Obligations.WordsOfTheTablesDecode : Prop :=
  decodeStatus 0x08#8 = .status08 ∧ decodeStatus 0x62#8 = .status60 ∧ decodeStatus 0xD7#8 = .statusD0 ∧
    decodeStatus 0xFB#8 = .statusF8 ∧ decodeStatus 0x05#8 = .status00 ∧
    decodeCall [0x01#8, 0x03#8, 0x70#8, 0x01#8, 0x00#8, 0x00#8, 0x01#8, 0x86#8, 0xA0#8] =
      .ok (.apply {
        activate := true, irqEnable := true, ackEnable := false, gcEnable := false, selfAddr := 0x70
        mode := 1, prescaler := 0, speed := 100000 }, []) ∧
    decodeCall [0x03#8, 0x20#8, 0x06#8] = .ok (.setTargetAddress 0x20, [0x06#8]) ∧
    decodeCall [0x04#8, 0x02#8, 0x41#8, 0x42#8, 0x07#8] = .ok (.fillTransmit [0x41#8, 0x42#8], [0x07#8]) ∧
    decodeCall [0x0B#8] = .ok (.discover, []) ∧ decodeCall [0x0D#8] = .error .unknownSelector

/-- R73, R136: a selector that R75 does not list is refused by name: the sticky mark is set and nothing happens. That
the refused call is one byte long is the model's choice (log 11). -/
def Obligations.UnknownSelectorIsRefusedByName : Prop :=
  ∀ (s t : State) (sel : Byte) (args : List Byte), sel.toNat = 0 ∨ 12 < sel.toNat →
    MoveIs s .fg t → s.disc = none → s.program = sel :: args →
    step s = .next (withRefusal .unknownSelector { t with program := args })

/-! ### Reset -/

/-- R43: every piece of state after power-on; a slot of an arena reads the byte drawn for it. -/
def Obligations.ResetLeavesTheValuesOfTheTable : Prop :=
  State.reset.ctrl = 0x00#8 ∧ State.reset.status = 0xF8#8 ∧ State.reset.data = 0xFF#8 ∧ State.reset.addr = 0xFE#8 ∧
    State.reset.bitrate = 0x00#8 ∧ State.reset.amr = 0x00#8 ∧ State.reset.gie = false ∧
    State.reset.cfg = {
      activate := false, irqEnable := false, ackEnable := false, gcEnable := false, selfAddr := 0#7
      speed := 0, mode := .slave, prescaler := 0#2 } ∧
    State.reset.direction = .unknown ∧ State.reset.target = 0#7 ∧
    State.reset.tx.live = false ∧ State.reset.tx.len = 0 ∧ State.reset.tx.cursor = 0 ∧
    (∀ i, Memory.read Config.txPowerOn State.reset.tx.bytes i = Config.txPowerOn i) ∧
    State.reset.rx.live = false ∧ State.reset.rx.capacity = 0 ∧ State.reset.rx.cursor = 0 ∧
    (∀ i, rxSlot State.reset i = Config.rxPowerOn i) ∧
    State.reset.lastError = .none ∧ State.reset.ackLatch = .unset ∧ (∀ a : Fin 128, State.reset.found[a] = false) ∧
    State.reset.discoveredOk = false ∧ State.reset.xferActive = false ∧
    State.reset.faults = { fillDuringTransfer := false, startDuringTransfer := false } ∧
    State.reset.refused = false ∧ State.reset.debugOut = []

/-- The invariant holds right after power-on. -/
def Obligations.ResetMeetsTheInvariant : Prop :=
  StateInv State.reset

/-- R29, R33, R34, R66, R83, R180: from every state that meets the invariant, a step of any agent gives a state that
meets it, whatever the schedule, the free moves, the peripheral's draws and the program are. -/
def Obligations.EveryStepKeepsTheInvariant : Prop :=
  ∀ s t : State, StateInv s → step s = .next t → StateInv t

/-- R156: after power-on, with any program and any schedule, neither HANDLER nor PERIPH has a step. -/
def Obligations.AfterResetOnlyTheForegroundActs : Prop :=
  ∀ (p : List Byte) (q : List Move) (n : Nat) (m : Move), m ≠ .fg →
    runMove m { State.reset with program := p, sched := q, tick := n } =
      .next { State.reset with program := p, sched := q, tick := n }

/-- R157: the calls before any successful `apply`, on the reset state. -/
def Obligations.CallsBeforeAnyApply : Prop :=
  exec .start State.reset = .next (withOutcome (.returned .notActivated) State.reset) ∧
    exec (.setTargetAddress 0) State.reset =
      .next (withOutcome (.returned .selfAddressingNotAllowed) State.reset) ∧
    (∀ a : Nat, 1 ≤ a → a ≤ 127 → exec (.setTargetAddress a) State.reset =
      .next (withOutcome (.returned .notPermittedInSlaveMode) State.reset)) ∧
    (∀ bs : List Byte, bs.length ≤ Config.txMax → ∃ t, exec (.fillTransmit bs) State.reset = .next t ∧
      t.returns = [.returned .ok] ∧ t.tx.live = true ∧ t.tx.len = bs.length) ∧
    (∀ n : Nat, n ≤ Config.rxMax → ∃ t, exec (.setReceiveCapacity n) State.reset = .next t ∧
      t.returns = [.returned .ok] ∧ t.rx.capacity = n) ∧
    exec .getReceived State.reset = .next (withOutcome (.returned .noDataYet) State.reset) ∧
    exec .flushReceive State.reset = .next (withOutcome (.returned .nothingToFlush) State.reset) ∧
    exec .flushTransmit State.reset = .next (withOutcome (.returned .nothingToFlush) State.reset) ∧
    exec .report State.reset = .next (withOutcome (.returned .notDiscoveredYet) State.reset) ∧
    exec .discover State.reset = .next (discoverBegin Config.fCpu State.reset) ∧
    ∀ f : Nat, 3600000 ≤ f → f < 52800000 →
      (discoverBegin f State.reset).cfg = defaultProfile ∧
        (discoverBegin f State.reset).disc = some discoveryStart

/-! ### Steps -/

/-- R93: a HANDLER move at a deliverable event runs exactly the transition of the current status code. -/
def Obligations.StepRunsTheDeliveredTransition : Prop :=
  ∀ s t : State, MoveIs s .handler t → ctrlInt s.ctrl = true → ctrlIe s.ctrl = true → s.gie = true →
    step s = exec (decodeStatus s.status) t

/-- R10, R75: a foreground move with no `discover` in progress runs exactly the call at the front of the program, decoded
from its bytes, and passes them. That the program is call bytes held in the state is the model's choice (log 1). -/
def Obligations.StepRunsTheDecodedCall : Prop :=
  ∀ (s t : State) (i : Instr) (rest : List Byte), MoveIs s .fg t → s.disc = none →
    decodeCall s.program = .ok (i, rest) → i.wellFormed = true → step s = exec i { t with program := rest }

/-- A move of an agent that has no step changes nothing but the schedule: no event deliverable (R93), PERIPH disabled or
an event pending (R144), no stop requested or PERIPH disabled (R145), the program finished (R153). Moves and the schedule
are the model's own (log 2). -/
def Obligations.AgentWithoutAStepChangesNothing : Prop :=
  (∀ s t : State, MoveIs s .handler t → (ctrlInt s.ctrl && ctrlIe s.ctrl && s.gie) = false → step s = .next t) ∧
    (∀ (s t : State) (f : StatusField) (d : Byte), MoveIs s (.event f d) t →
      ctrlEn s.ctrl = false ∨ ctrlInt s.ctrl = true → step s = .next t) ∧
    (∀ s t : State, MoveIs s .stopDone t → ctrlSto s.ctrl = false ∨ ctrlEn s.ctrl = false → step s = .next t) ∧
    ∀ s t : State, MoveIs s .fg t → s.disc = none → s.program = [] → step s = .next t

/-- R144: with `EN = 1` and `INT = 0`, PERIPH presents any status code and sets `INT`; a byte is left in `DATA` exactly
for the six codes with which one was received; the prescaler bits stay. `busIdle` is the model's own (log 9). -/
def Obligations.PeripheralPresentsAnEvent : Prop :=
  ∀ (s t : State) (f : StatusField) (d : Byte), MoveIs s (.event f d) t →
    ctrlEn s.ctrl = true → ctrlInt s.ctrl = false →
    step s = .next { t with
      status := (f ++ (s.status.extractLsb' 0 3) : BitVec 8)
      data := if f.toNat * 8 ∈ [0x50, 0x58, 0x80, 0x88, 0x90, 0x98] then d else s.data
      ctrl := s.ctrl ||| 0x80#8
      busIdle := false }

/-- R145: with `STO = 1` and `EN = 1`, PERIPH may execute the stop: `STO` is cleared and no event is raised. `busIdle` is
the model's own (log 9); that `INT` need not be 0 is log 12. -/
def Obligations.PeripheralExecutesAStop : Prop :=
  ∀ s t : State, MoveIs s .stopDone t → ctrlSto s.ctrl = true → ctrlEn s.ctrl = true →
    step s = .next { t with ctrl := s.ctrl &&& 0xEF#8, busIdle := true }

/-- R20: while an event is pending, no step of PERIPH changes `STATUS`, `DATA` or `INT`. -/
def Obligations.PendingEventIsStable : Prop :=
  ∀ (s t u : State) (m : Move), (m = .stopDone ∨ ∃ f d, m = .event f d) → MoveIs s m t → ctrlInt s.ctrl = true →
    step s = .next u → u.status = s.status ∧ u.data = s.data ∧ ctrlInt u.ctrl = true

/-- A step stops the machine only where the program's call bytes end inside a call, the model's own stop (log 7). -/
def Obligations.StepStopsOnlyOnATruncatedCall : Prop :=
  ∀ s : State, (∃ t, step s = .next t) ∨
    (step s = .fault .truncatedCall ∧ s.disc = none ∧ decodeCall s.program = .error .truncated)

/-! ### Registers -/

/-- R19, R23, R24, R25, R26, R27: what a write by the block leaves in each register, and that it changes nothing else. -/
def Obligations.RegisterWritesFollowTheirAccessRules : Prop :=
  ∀ (s : State) (v : Byte),
    s.writeReg .ctrl v = { s with ctrl := (s.writeReg .ctrl v).ctrl } ∧
    ctrlInt (s.writeReg .ctrl v).ctrl = (ctrlInt s.ctrl && !v.getLsbD 7) ∧
    ctrlEa (s.writeReg .ctrl v).ctrl = v.getLsbD 6 ∧ ctrlSta (s.writeReg .ctrl v).ctrl = v.getLsbD 5 ∧
    ctrlSto (s.writeReg .ctrl v).ctrl = v.getLsbD 4 ∧ ctrlWc (s.writeReg .ctrl v).ctrl = ctrlWc s.ctrl ∧
    ctrlEn (s.writeReg .ctrl v).ctrl = v.getLsbD 2 ∧
    (s.writeReg .ctrl v).ctrl.getLsbD 1 = s.ctrl.getLsbD 1 ∧ ctrlIe (s.writeReg .ctrl v).ctrl = v.getLsbD 0 ∧
    s.writeReg .status v = { s with status := s.status.extractLsb' 2 6 ++ v.extractLsb' 0 2 } ∧
    (ctrlInt s.ctrl = true → s.writeReg .data v = { s with data := v, ctrl := s.ctrl &&& 0xF7#8 }) ∧
    (ctrlInt s.ctrl = false → s.writeReg .data v = { s with ctrl := s.ctrl ||| 0x08#8 }) ∧
    s.writeReg .addr v = { s with addr := v } ∧ s.writeReg .bitrate v = { s with bitrate := v } ∧
    s.writeReg .amr v = { s with amr := v &&& 0xFE#8 }

/-- R50: the six registers stand at 0xB8 to 0xBD, and the block accesses no other address. R19, R23, R24, R25, R26, R27,
R49: a read gives the register as it is held, with the reserved bits 2 of `STATUS`, 1 of `CTRL` and 0 of `AMR` reading 0. -/
def Obligations.RegistersStandAtTheirAddresses : Prop :=
  ∀ (s : State) (v : Byte) (a : Nat),
    (a = 0xB8 → s.memRead a = some (s.readReg .bitrate) ∧ s.memWrite a v = some (s.writeReg .bitrate v)) ∧
    (a = 0xB9 → s.memRead a = some (s.readReg .status) ∧ s.memWrite a v = some (s.writeReg .status v)) ∧
    (a = 0xBA → s.memRead a = some (s.readReg .addr) ∧ s.memWrite a v = some (s.writeReg .addr v)) ∧
    (a = 0xBB → s.memRead a = some (s.readReg .data) ∧ s.memWrite a v = some (s.writeReg .data v)) ∧
    (a = 0xBC → s.memRead a = some (s.readReg .ctrl) ∧ s.memWrite a v = some (s.writeReg .ctrl v)) ∧
    (a = 0xBD → s.memRead a = some (s.readReg .amr) ∧ s.memWrite a v = some (s.writeReg .amr v)) ∧
    (a < 0xB8 ∨ 0xBD < a → s.memRead a = none ∧ s.memWrite a v = none) ∧
    s.readReg .bitrate = s.bitrate ∧ s.readReg .status = s.status &&& 0xFB#8 ∧ s.readReg .addr = s.addr ∧
    s.readReg .data = s.data ∧ s.readReg .ctrl = s.ctrl &&& 0xFD#8 ∧ s.readReg .amr = s.amr &&& 0xFE#8

/-! ### Master transitions -/

/-- R98, R99: START or repeated START sent: the SLA+R/W byte goes to `DATA`, `STA` is cleared, the event retired. -/
def Obligations.StartSentLoadsTheAddressByte : Prop :=
  ∀ (s : State) (i : Instr), i ∈ [Instr.status08, Instr.status10] → ctrlInt s.ctrl = true →
    exec i s = .next { s with
      data := (s.target ++ (if s.direction = .receive then 1#1 else 0#1) : BitVec 8)
      ctrl := (s.ctrl &&& 0x07#8) ||| ackBit s }

/-- R100, R96: the address was acknowledged: the latch is set, and the next byte goes out, or the stop is issued and the
buffer released. -/
def Obligations.MasterTransmitAddressAck : Prop :=
  ∀ s : State,
    (ctrlInt s.ctrl = true → s.tx.live = true → s.tx.cursor < s.tx.len →
      exec .status18 s = .next { s with
        ackLatch := .positive
        data := Memory.read Config.txPowerOn s.tx.bytes s.tx.cursor
        tx := { s.tx with cursor := s.tx.cursor + 1 }
        ctrl := (s.ctrl &&& 0x07#8) ||| ackBit s }) ∧
    (s.tx.live = false ∨ s.tx.len ≤ s.tx.cursor →
      exec .status18 s = .next { s with
        ackLatch := .positive
        tx := { live := false, len := 0, cursor := 0, bytes := s.tx.bytes }
        xferActive := false
        ctrl := (s.ctrl &&& 0x0F#8) ||| ackBit s ||| 0x10#8 })

/-- R102, R96: a data byte was acknowledged: the next byte goes out, or the stop is issued and the buffer released. -/
def Obligations.MasterTransmitDataAck : Prop :=
  ∀ s : State,
    (ctrlInt s.ctrl = true → s.tx.live = true → s.tx.cursor < s.tx.len →
      exec .status28 s = .next { s with
        data := Memory.read Config.txPowerOn s.tx.bytes s.tx.cursor
        tx := { s.tx with cursor := s.tx.cursor + 1 }
        ctrl := (s.ctrl &&& 0x07#8) ||| ackBit s }) ∧
    (s.tx.live = false ∨ s.tx.len ≤ s.tx.cursor →
      exec .status28 s = .next { s with
        tx := { live := false, len := 0, cursor := 0, bytes := s.tx.bytes }
        xferActive := false
        ctrl := (s.ctrl &&& 0x0F#8) ||| ackBit s ||| 0x10#8 })

/-- R101: the address was not acknowledged: error, latch negative, stop; the transmit buffer is kept. -/
def Obligations.MasterTransmitAddressNack : Prop :=
  ∀ s : State, exec .status20 s = .next { s with
    lastError := .addressNotAcknowledged
    ackLatch := .negative
    xferActive := false
    ctrl := (s.ctrl &&& 0x0F#8) ||| ackBit s ||| 0x10#8 }

/-- R103, R106, R108, R125: each records its class (c) error and issues a stop; buffers and latch are kept. -/
def Obligations.BusProtocolErrorsEndInAStop : Prop :=
  ∀ (s : State) (i : Instr) (e : CommError),
    (i, e) ∈ [(Instr.status30, CommError.dataNotAcknowledged), (Instr.status48, CommError.addressNotAcknowledged),
      (Instr.status58, CommError.dataNotAcknowledged), (Instr.status00, CommError.illegalStartOrStop)] →
    exec i s = .next { s with
      lastError := e
      xferActive := false
      ctrl := (s.ctrl &&& 0x0F#8) ||| ackBit s ||| 0x10#8 }

/-- R104: arbitration lost: the error is recorded and the start requested again; the transfer stays outstanding and the
transmit cursor is not rewound. -/
def Obligations.ArbitrationLossRequestsTheStartAgain : Prop :=
  ∀ s : State, exec .status38 s = .next { s with
    lastError := .arbitrationLost
    ctrl := (s.ctrl &&& 0x0F#8) ||| ackBit s ||| 0x20#8 }

/-- R105, R97: SLA+R acknowledged: a full buffer gets its sentinel, if it is live, and the next byte is NACKed; otherwise
the next byte is ACKed. -/
def Obligations.MasterReceiveAddressAck : Prop :=
  ∀ s : State,
    (s.rx.cursor < s.rx.capacity → exec .status40 s = .next { s with ctrl := (s.ctrl &&& 0x0F#8) ||| 0x40#8 }) ∧
    (s.rx.capacity ≤ s.rx.cursor → s.rx.live = true → exec .status40 s = .next { s with
      rx := { s.rx with slots := Memory.write s.rx.slots s.rx.cursor 0x00#8 }
      ctrl := s.ctrl &&& 0x0F#8 }) ∧
    (s.rx.capacity ≤ s.rx.cursor → s.rx.live = false → exec .status40 s = .next { s with ctrl := s.ctrl &&& 0x0F#8 })

/-- R107, R62, R97: a received byte is stored while capacity remains; the byte that fills the buffer also writes the
sentinel and NACKs the next one; a byte at capacity is dropped. `c` is the cursor of the buffer once allocated. -/
def Obligations.MasterReceiveDataAck : Prop :=
  ∀ (s : State) (c : Nat), c = (if s.rx.live then s.rx.cursor else 0) →
    (c + 1 < s.rx.capacity → exec .status50 s = .next { s with
      rx := { live := true, capacity := s.rx.capacity, cursor := c + 1, slots := Memory.write s.rx.slots c s.data }
      ctrl := (s.ctrl &&& 0x0F#8) ||| 0x40#8 }) ∧
    (c + 1 = s.rx.capacity → exec .status50 s = .next { s with
      rx := {
        live := true, capacity := s.rx.capacity, cursor := c + 1
        slots := Memory.write (Memory.write s.rx.slots c s.data) (c + 1) 0x00#8 }
      ctrl := s.ctrl &&& 0x0F#8 }) ∧
    (s.rx.capacity ≤ c → exec .status50 s = .next { s with
      rx := { live := true, capacity := s.rx.capacity, cursor := c, slots := Memory.write s.rx.slots c 0x00#8 }
      ctrl := s.ctrl &&& 0x0F#8 })

/-! ### Slave transitions -/

/-- R109, R111 to R114: addressed as a slave receiver, directly, by the general call or after an arbitration loss. -/
def Obligations.SlaveReceiveAddressed : Prop :=
  ∀ (s : State) (i : Instr), i ∈ [Instr.status60, Instr.status68, Instr.status70, Instr.status78] →
    exec i s = .next { s with
      direction := .receive
      rx := { s.rx with capacity := Config.rxMax }
      xferActive := true
      ctrl := (s.ctrl &&& 0x0F#8) ||| 0x40#8 }

/-- R115, R117: a byte received as slave is stored while capacity remains; the byte that fills the buffer also writes the
sentinel and NACKs the next one; a byte at capacity is dropped and NACKed. -/
def Obligations.SlaveReceiveDataAck : Prop :=
  ∀ (s : State) (i : Instr) (c : Nat), i ∈ [Instr.status80, Instr.status90] →
    c = (if s.rx.live then s.rx.cursor else 0) →
    (c + 1 < s.rx.capacity → exec i s = .next { s with
      rx := { live := true, capacity := s.rx.capacity, cursor := c + 1, slots := Memory.write s.rx.slots c s.data }
      ctrl := (s.ctrl &&& 0x0F#8) ||| 0x40#8 }) ∧
    (c + 1 = s.rx.capacity → exec i s = .next { s with
      rx := {
        live := true, capacity := s.rx.capacity, cursor := c + 1
        slots := Memory.write (Memory.write s.rx.slots c s.data) (c + 1) 0x00#8 }
      ctrl := s.ctrl &&& 0x0F#8 }) ∧
    (s.rx.capacity ≤ c → exec i s = .next { s with
      rx := { live := true, capacity := s.rx.capacity, cursor := c, slots := s.rx.slots }
      ctrl := s.ctrl &&& 0x0F#8 })

/-- R116, R118: a byte NACKed as slave ends the transfer; nothing is stored. -/
def Obligations.SlaveReceiveDataNack : Prop :=
  ∀ (s : State) (i : Instr), i ∈ [Instr.status88, Instr.status98] →
    exec i s = .next { s with xferActive := false, ctrl := s.ctrl &&& 0x0F#8 }

/-- R119: STOP or repeated START as slave: a live buffer that is not full gets its sentinel. -/
def Obligations.SlaveStopOrRepeatedStart : Prop :=
  ∀ s : State,
    (s.rx.live = true → s.rx.cursor < s.rx.capacity → exec .statusA0 s = .next { s with
      rx := { s.rx with slots := Memory.write s.rx.slots s.rx.cursor 0x00#8 }
      xferActive := false
      ctrl := (s.ctrl &&& 0x0F#8) ||| 0x40#8 }) ∧
    (s.rx.live = false ∨ s.rx.capacity ≤ s.rx.cursor → exec .statusA0 s = .next { s with
      xferActive := false
      ctrl := (s.ctrl &&& 0x0F#8) ||| 0x40#8 })

/-- R120, R121, R110: addressed as a slave transmitter: the cursor is rewound and the first byte goes out, or, with no
byte to send, `DATA` is left alone and the next acknowledge is negative. -/
def Obligations.SlaveTransmitAddressed : Prop :=
  ∀ (s : State) (i : Instr), i ∈ [Instr.statusA8, Instr.statusB0] →
    (ctrlInt s.ctrl = true → s.tx.live = true → 0 < s.tx.len → exec i s = .next { s with
      direction := .transmit
      xferActive := true
      data := Memory.read Config.txPowerOn s.tx.bytes 0
      tx := { s.tx with cursor := 1 }
      ctrl := (s.ctrl &&& 0x07#8) ||| 0x40#8 }) ∧
    (s.tx.live = false ∨ s.tx.len = 0 → exec i s = .next { s with
      direction := .transmit
      xferActive := true
      tx := { s.tx with cursor := 0 }
      ctrl := s.ctrl &&& 0x0F#8 })

/-- R122, R110: a byte sent as slave was acknowledged: the next one goes out, or, with none left, `DATA` is left alone
and the next acknowledge is negative. -/
def Obligations.SlaveTransmitDataAck : Prop :=
  ∀ s : State,
    (ctrlInt s.ctrl = true → s.tx.live = true → s.tx.cursor < s.tx.len → exec .statusB8 s = .next { s with
      data := Memory.read Config.txPowerOn s.tx.bytes s.tx.cursor
      tx := { s.tx with cursor := s.tx.cursor + 1 }
      ctrl := (s.ctrl &&& 0x07#8) ||| 0x40#8 }) ∧
    (s.tx.live = false ∨ s.tx.len ≤ s.tx.cursor → exec .statusB8 s = .next { s with ctrl := s.ctrl &&& 0x0F#8 })

/-- R123, R124: a slave transmit ends: the buffer is released, even if bytes remain. -/
def Obligations.SlaveTransmitEnds : Prop :=
  ∀ (s : State) (i : Instr), i ∈ [Instr.statusC0, Instr.statusC8] →
    exec i s = .next { s with
      tx := { live := false, len := 0, cursor := 0, bytes := s.tx.bytes }
      xferActive := false
      ctrl := (s.ctrl &&& 0x0F#8) ||| 0x40#8 }

/-- R126: no information: only the pending event is cleared. -/
def Obligations.NoInformationOnlyClearsTheEvent : Prop :=
  ∀ s : State, exec .statusF8 s = .next { s with ctrl := s.ctrl &&& 0x7F#8 }

/-- R127, R174: an unmapped code is reported and changes nothing else, so the event stays deliverable with the same
status. -/
def Obligations.UnmappedCodeOnlyEmits : Prop :=
  ∀ (s : State) (i : Instr) (b : Byte),
    (i, b) ∈ [(Instr.statusD0, 0xD0#8), (Instr.statusD8, 0xD8#8), (Instr.statusE0, 0xE0#8), (Instr.statusE8, 0xE8#8),
      (Instr.statusF0, 0xF0#8)] →
    exec i s = .next { s with debugOut := s.debugOut ++ [.unmapped b] } ∧
      deliverable { s with debugOut := s.debugOut ++ [.unmapped b] } = deliverable s

/-! ### Foreground operations -/

/-- R80: the divisor is the floor of the exact quotient, with the clock count itself floored first. -/
def Obligations.DivisorIsTheFloorOfTheBitRateEquation : Prop :=
  ∀ f v p : Nat, 0 < v → divisor f v p = ⌊(((f / v : Nat) : ℚ) - 16) / (2 * 4 ^ p)⌋

/-- R82, R83: `apply` makes its checks in order; the first that fails names the outcome and nothing else changes; a
configuration that passes is activated. The call runs with the clock `F_CPU`; what it does is stated for every clock.
`busIdle` is the model's own (log 9). -/
def Obligations.ApplyChecksInOrderThenActivates : Prop :=
  ∀ (c : ConfigArg) (s : State),
    exec (.apply c) s = .next (endCall (applyOp Config.fCpu c s)) ∧
    ∀ f : Nat, endCall (applyOp f c s) =
      if 3 < c.prescaler then withRefusal .prescalerRange s
      else if 2 < c.mode then withRefusal .modeRange s
      else if c.selfAddr < 1 ∨ 127 < c.selfAddr then withOutcome (.returned .selfAddressOutOfRange) s
      else if c.speed = 0 then withRefusal .speedZero s
      else if c.mode ≠ 0 ∧ divisor f c.speed c.prescaler < 10 then
        withOutcome (.returned .bitRateTooLowForMaster) s
      else if 400000 < c.speed then withOutcome (.returned .speedUnsupported) s
      else if c.mode ≠ 0 ∧ 255 < divisor f c.speed c.prescaler then withRefusal .divisorOverflow s
      else withOutcome (.returned .ok) { s with
        cfg := {
          activate := c.activate, irqEnable := c.irqEnable, ackEnable := c.ackEnable, gcEnable := c.gcEnable
          selfAddr := BitVec.ofNat 7 c.selfAddr, speed := c.speed
          mode := if c.mode = 0 then .slave else if c.mode = 1 then .masterTransmit else .masterReceive
          prescaler := BitVec.ofNat 2 c.prescaler }
        direction := if c.mode = 0 then .unknown else if c.mode = 1 then .transmit else .receive
        addr := (BitVec.ofNat 7 c.selfAddr ++ BitVec.ofBool c.gcEnable : BitVec 8)
        status := (s.status.extractLsb' 2 6 ++ BitVec.ofNat 2 c.prescaler : BitVec 8)
        bitrate := if c.mode = 0 then s.bitrate else BitVec.ofInt 8 (divisor f c.speed c.prescaler)
        ctrl := (s.ctrl &&& 0x8A#8) ||| (if c.ackEnable then 0x40#8 else 0x00#8) |||
          (if c.activate then 0x04#8 else 0x00#8) ||| (if c.irqEnable then 0x01#8 else 0x00#8)
        gie := c.irqEnable
        busIdle := s.busIdle || !c.activate }

/-- R84: `default()` returns the profile and applies nothing. -/
def Obligations.DefaultReturnsTheProfile : Prop :=
  ∀ s : State, exec .defaultConfig s = .next (withOutcome (.returned (.okConfig {
    activate := true, irqEnable := true, ackEnable := false, gcEnable := false, selfAddr := 0x70#7, speed := 100000
    mode := .masterTransmit, prescaler := 0#2 })) s)

/-- R84: `apply(default())` succeeds exactly for the clocks from 3600000 Hz up to below 52800000 Hz. -/
def Obligations.DefaultProfileAppliesExactlyInItsClockRange : Prop :=
  ∀ (f : Nat) (s : State), (applyOp f defaultProfile.toArg s).1 = .returned .ok ↔ 3600000 ≤ f ∧ f < 52800000

/-- R85: `set_target_address` makes its three checks in order; only an accepted address is recorded. -/
def Obligations.SetTargetAddressChecksInOrder : Prop :=
  ∀ (a : Nat) (s : State),
    (127 < a → exec (.setTargetAddress a) s = .next (withOutcome (.returned .addressOutOfRange) s)) ∧
    (a ≤ 127 → a = s.cfg.selfAddr.toNat →
      exec (.setTargetAddress a) s = .next (withOutcome (.returned .selfAddressingNotAllowed) s)) ∧
    (a ≤ 127 → a ≠ s.cfg.selfAddr.toNat → s.cfg.mode = .slave →
      exec (.setTargetAddress a) s = .next (withOutcome (.returned .notPermittedInSlaveMode) s)) ∧
    (a ≤ 127 → a ≠ s.cfg.selfAddr.toNat → s.cfg.mode ≠ .slave →
      exec (.setTargetAddress a) s =
        .next (withOutcome (.returned .ok) { s with target := BitVec.ofNat 7 a }))

/-- R86: `fill_transmit` outside its role is rejected, too long a sequence is refused, and any other fills a fresh buffer,
marked if a transfer is outstanding; the slots read back the bytes. -/
def Obligations.FillTransmitReplacesTheBuffer : Prop :=
  ∀ (bs : List Byte) (s : State),
    (s.cfg.mode = .masterReceive →
      exec (.fillTransmit bs) s = .next (withOutcome (.returned .notInTransmitRole) s)) ∧
    (s.cfg.mode ≠ .masterReceive → Config.txMax < bs.length →
      exec (.fillTransmit bs) s = .next (withRefusal .txTooLong s)) ∧
    (s.cfg.mode ≠ .masterReceive → bs.length ≤ Config.txMax → ∃ m : Memory,
      exec (.fillTransmit bs) s = .next (withOutcome (.returned .ok) { s with
        tx := { live := true, len := bs.length, cursor := 0, bytes := m }
        faults := { s.faults with fillDuringTransfer := s.faults.fillDuringTransfer || s.xferActive } }) ∧
      ∀ i : Nat, Memory.read Config.txPowerOn m i =
        if h : i < bs.length then bs[i] else Memory.read Config.txPowerOn s.tx.bytes i)

/-- R87: `set_receive_capacity` records a capacity the arena can hold and refuses any other. -/
def Obligations.SetReceiveCapacityRecordsTheCapacity : Prop :=
  ∀ (n : Nat) (s : State),
    (Config.rxMax < n → exec (.setReceiveCapacity n) s = .next (withRefusal .rxCapacity s)) ∧
    (n ≤ Config.rxMax → exec (.setReceiveCapacity n) s =
      .next (withOutcome (.returned .ok) { s with rx := { s.rx with capacity := n } }))

/-- R88: `start` needs an activated master; it requests the start, retires a pending event, withdraws a pending stop, and
marks a start during a transfer. -/
def Obligations.StartRequestsTheStartCondition : Prop :=
  ∀ s : State,
    (s.cfg.activate = false → exec .start s = .next (withOutcome (.returned .notActivated) s)) ∧
    (s.cfg.activate = true → s.cfg.mode = .slave →
      exec .start s = .next (withOutcome (.returned .notPermittedInSlaveMode) s)) ∧
    (s.cfg.activate = true → s.cfg.mode ≠ .slave →
      exec .start s = .next (withOutcome (.returned .ok) { s with
        ctrl := (s.ctrl &&& 0x0F#8) ||| ackBit s ||| 0x20#8
        xferActive := true
        faults := { s.faults with startDuringTransfer := s.faults.startDuringTransfer || s.xferActive } }))

/-- R89: `stop` always requests the stop, retires a pending event and releases the transmit buffer. -/
def Obligations.StopRequestsTheStopCondition : Prop :=
  ∀ s : State, exec .stop s = .next (withOutcome (.returned .ok) { s with
    ctrl := (s.ctrl &&& 0x0F#8) ||| ackBit s ||| 0x10#8
    tx := { live := false, len := 0, cursor := 0, bytes := s.tx.bytes }
    xferActive := false })

/-- R90: `get_received` returns the data bytes and the sentinel once the cursor is nonzero and the terminal slot holds the
sentinel, and `NoDataYet` otherwise; it changes no buffer. -/
def Obligations.GetReceivedReturnsTheCompletedReceive : Prop :=
  ∀ s : State,
    (0 < s.rx.cursor → rxSlot s s.rx.cursor = 0x00#8 → ∃ bs : List Byte,
      exec .getReceived s = .next (withOutcome (.returned (.okBytes bs)) s) ∧
      bs.length = s.rx.cursor + 1 ∧ ∀ i, (h : i < bs.length) → bs[i] = rxSlot s i) ∧
    (s.rx.cursor = 0 ∨ rxSlot s s.rx.cursor ≠ 0x00#8 →
      exec .getReceived s = .next (withOutcome (.returned .noDataYet) s))

/-- R91, R92: each flush releases its live buffer and keeps the arena (and the capacity); with none live there is nothing
to flush. -/
def Obligations.FlushReleasesALiveBuffer : Prop :=
  ∀ s : State,
    (s.rx.live = true → exec .flushReceive s = .next (withOutcome (.returned .ok) { s with
      rx := { live := false, capacity := s.rx.capacity, cursor := 0, slots := s.rx.slots } })) ∧
    (s.rx.live = false → exec .flushReceive s = .next (withOutcome (.returned .nothingToFlush) s)) ∧
    (s.tx.live = true → exec .flushTransmit s = .next (withOutcome (.returned .ok) { s with
      tx := { live := false, len := 0, cursor := 0, bytes := s.tx.bytes } })) ∧
    (s.tx.live = false → exec .flushTransmit s = .next (withOutcome (.returned .nothingToFlush) s))

/-! ### Discovery -/

/-- R128, line 1: `discover` applies the default profile; a failing `apply` ends it with that outcome, and otherwise the
scan starts at address 0 with nothing seen. It runs with the clock `F_CPU`; what it does is stated for every clock. -/
def Obligations.DiscoverAppliesTheDefaultProfile : Prop :=
  ∀ s : State,
    exec .discover s = .next (discoverBegin Config.fCpu s) ∧
    ∀ f : Nat, discoverBegin f s =
      if f < 3600000 then withOutcome (.returned .bitRateTooLowForMaster) s
      else if 52800000 ≤ f then withRefusal .divisorOverflow s
      else { s with
        cfg := {
          activate := true, irqEnable := true, ackEnable := false, gcEnable := false, selfAddr := 0x70#7
          speed := 100000, mode := .masterTransmit, prescaler := 0#2 }
        direction := .transmit
        addr := 0xE0#8
        status := s.status &&& 0xFC#8
        bitrate := BitVec.ofNat 8 ((f / 100000 - 16) / 2)
        ctrl := (s.ctrl &&& 0x8A#8) ||| 0x05#8
        gie := true
        disc := some { line := .loopHead, a := 0, seen := Vector.replicate 128 false, any := false } }

/-- R128, lines 2 to 6, and R130: each foreground step of a scan in progress runs one line. -/
def Obligations.DiscoverRunsItsLinesInOrder : Prop :=
  ∀ (s t : State) (d : Discovery), MoveIs s .fg t → s.disc = some d →
    (d.line = .loopHead → d.a.val ≠ s.cfg.selfAddr.toNat →
      step s = .next { t with disc := some { d with line := .setTarget } }) ∧
    (d.line = .loopHead → d.a.val = s.cfg.selfAddr.toNat →
      step s = .next { t with
        disc := some {
          line := if d.a.val = 127 then .commit else .loopHead
          a := if d.a.val = 127 then d.a else d.a + 1
          seen := d.seen.set d.a.val false
          any := d.any } }) ∧
    (d.line = .setTarget →
      step s = .next { t with
        target := if s.cfg.mode = .slave ∨ d.a.val = s.cfg.selfAddr.toNat then s.target else BitVec.ofNat 7 d.a.val
        disc := some { d with line := .startProbe } }) ∧
    (d.line = .startProbe → s.cfg.activate = true → s.cfg.mode ≠ .slave →
      step s = .next { t with
        ctrl := (s.ctrl &&& 0x0F#8) ||| ackBit s ||| 0x20#8
        xferActive := true
        faults := { s.faults with startDuringTransfer := s.faults.startDuringTransfer || s.xferActive }
        disc := some { d with line := .poll } }) ∧
    (d.line = .startProbe → s.cfg.activate = false ∨ s.cfg.mode = .slave →
      step s = .next { t with disc := some { d with line := .poll } }) ∧
    (d.line = .poll → s.ackLatch = .unset → step s = .next t) ∧
    (d.line = .poll → s.ackLatch ≠ .unset →
      step s = .next { t with disc := some { d with line := .record s.ackLatch } }) ∧
    ∀ l : AckLatch, d.line = .record l →
      step s = .next { t with
        ackLatch := .unset
        disc := some {
          line := if d.a.val = 127 then .commit else .loopHead
          a := if d.a.val = 127 then d.a else d.a + 1
          seen := d.seen.set d.a.val (decide (l = .positive))
          any := d.any || decide (l = .positive) } }

/-- R128, line 7: the end of a scan replaces `found`, makes the direction unknown, and succeeds iff an address
acknowledged; `discovered_ok` is set by success and never cleared. -/
def Obligations.DiscoverCommitsItsResult : Prop :=
  ∀ (s t : State) (d : Discovery), MoveIs s .fg t → s.disc = some d → d.line = .commit →
    step s = .next (withOutcome (.returned (if d.any then .ok else .noDevicesFound)) { t with
      found := d.seen
      direction := .unknown
      discoveredOk := s.discoveredOk || d.any
      disc := none })

/-- R128, R129: with no live transmit buffer and the latch unset, a whole scan of a bus whose acknowledging addresses are
given by `answers`, each probe served in turn, ends with exactly those addresses found, the self address 0x70 always
absent, and with `Ok` iff one other address acknowledges. -/
def Obligations.DiscoverFindsExactlyTheAcknowledgers : Prop :=
  ∀ (answers : Nat → Bool) (draws : Nat → Byte) (s : State) (rest : List Move),
    s.disc = some discoveryStart → s.cfg = defaultProfile → s.gie = true → s.tx.live = false →
    s.ackLatch = .unset → ctrlInt s.ctrl = false → ctrlEn s.ctrl = true → ctrlIe s.ctrl = true →
    s.sched = scanMoves answers draws 0 128 ++ .fg :: rest →
    ∃ t, runs (s.sched.length - rest.length) s = some t ∧
      (∀ a : Fin 128, t.found[a] = (answers a.val && decide (a.val ≠ 0x70))) ∧
      t.direction = .unknown ∧ t.disc = none ∧ t.ackLatch = .unset ∧ t.sched = rest ∧
      ((∃ a : Nat, a < 128 ∧ a ≠ 0x70 ∧ answers a = true) →
        t.returns = s.returns ++ [.returned .ok] ∧ t.discoveredOk = true) ∧
      ((∀ a : Nat, a < 128 → a ≠ 0x70 → answers a = false) →
        t.returns = s.returns ++ [.returned .noDevicesFound] ∧ t.discoveredOk = s.discoveredOk)

/-- R131: `report` needs a successful discovery; it emits 8 rows of 16 cells, address `a` at row `a / 16` and column
`a % 16`, each row closed by a row end. -/
def Obligations.ReportRendersTheGrid : Prop :=
  ∀ s : State,
    (s.discoveredOk = false → exec .report s = .next (withOutcome (.returned .notDiscoveredYet) s)) ∧
    (s.discoveredOk = true → ∃ out : List Emission,
      exec .report s = .next (withOutcome (.returned .ok) { s with debugOut := s.debugOut ++ out }) ∧
      out.length = 136 ∧
      (∀ a : Fin 128, out[17 * (a.val / 16) + a.val % 16]? = some (.glyph s.found[a])) ∧
      ∀ r : Fin 8, out[17 * r.val + 16]? = some .rowEnd)

/-! ### Whole-machine rules -/

/-- R35: only HANDLER writes `last_error`. -/
def Obligations.OnlyTheHandlerWritesTheLastError : Prop :=
  ∀ (s t u : State) (m : Move), MoveIs s m t → m ≠ .handler → step s = .next u → u.lastError = s.lastError

/-- R136, R137, R37, R138: the refusal mark, the fault marks and `discovered_ok` are never cleared, and neither the debug
output nor the list of outcomes, the model's own (log 4), ever loses an entry. -/
def Obligations.StickyMarksAreNeverCleared : Prop :=
  ∀ s t : State, step s = .next t →
    (s.refused = true → t.refused = true) ∧
    (s.faults.fillDuringTransfer = true → t.faults.fillDuringTransfer = true) ∧
    (s.faults.startDuringTransfer = true → t.faults.startDuringTransfer = true) ∧
    (s.discoveredOk = true → t.discoveredOk = true) ∧
    s.debugOut <+: t.debugOut ∧ s.returns <+: t.returns

/-- R30, R66, R141, R142: a step of HANDLER never changes the configuration (so never the mode), the target, the interrupt
enables, the peripheral enable, the own address, the divisor, the prescaler, the status code or what the foreground
holds. -/
def Obligations.HandlerKeepsConfigurationAndEnables : Prop :=
  ∀ s t u : State, MoveIs s .handler t → step s = .next u →
    u.cfg = s.cfg ∧ u.target = s.target ∧ u.gie = s.gie ∧ ctrlEn u.ctrl = ctrlEn s.ctrl ∧ ctrlIe u.ctrl = ctrlIe s.ctrl ∧
    u.addr = s.addr ∧ u.bitrate = s.bitrate ∧ u.amr = s.amr ∧ u.status = s.status ∧ u.found = s.found ∧
    u.discoveredOk = s.discoveredOk ∧ u.disc = s.disc ∧ u.program = s.program ∧ u.returns = s.returns ∧
    u.faults = s.faults ∧ u.refused = s.refused

/-- R36, R170: the latch changes only in a HANDLER step at status 0x18 or 0x20, or at line 6 of `discover`. -/
def Obligations.OnlyAddressAnswersSetTheLatch : Prop :=
  ∀ (s t u : State) (m : Move), MoveIs s m t → step s = .next u → u.ackLatch ≠ s.ackLatch →
    (m = .handler ∧ s.status &&& 0xF8#8 = 0x18#8 ∧ u.ackLatch = .positive) ∨
    (m = .handler ∧ s.status &&& 0xF8#8 = 0x20#8 ∧ u.ackLatch = .negative) ∨
    (m = .fg ∧ u.ackLatch = .unset ∧ ∃ d l, s.disc = some d ∧ d.line = .record l)

/-- R94: every mapped transition clears the pending event, and an unmapped one leaves `CTRL` as it is. -/
def Obligations.MappedTransitionsRetireTheEvent : Prop :=
  ∀ (i : Instr) (s : State), i.isCall = false → ∃ t, exec i s = .next t ∧
    (isUnmapped i = false → ctrlInt t.ctrl = false) ∧ (isUnmapped i = true → t.ctrl = s.ctrl)

/-- R62, R63: an instruction changes no slot of the receive arena but those it stores to. -/
def Obligations.ReceiveArenaFrame : Prop :=
  ∀ (i : Instr) (s : State), ∃ t, exec i s = .next t ∧ ∀ j : Nat, j ∉ storedSlots i s → rxSlot t j = rxSlot s j

/-- R56, R59: only `fill_transmit` writes the transmit arena, and only the slots it fills. -/
def Obligations.TransmitArenaFrame : Prop :=
  ∀ (i : Instr) (s : State), ∃ t, exec i s = .next t ∧ ∀ j : Nat, filledSlots i s ≤ j →
    Memory.read Config.txPowerOn t.tx.bytes j = Memory.read Config.txPowerOn s.tx.bytes j

/-- R165: arbitration lost on a data byte. After 0x18 or 0x28 has loaded the byte at cursor `c`, the loss (0x38), the new
START (0x08) and the address's ACK (0x18) load the byte at `c + 1`, and the byte at `c` is not sent again. Lost during SLA+W,
with no byte loaded since 0x08, no data byte is skipped. -/
def Obligations.ArbitrationRetrySkipsTheLostByte : Prop :=
  ∀ (s : State) (x y z : Byte), ctrlInt s.ctrl = true → ctrlEn s.ctrl = true → s.tx.live = true →
    (∀ i : Instr, i ∈ [Instr.status18, Instr.status28] → s.tx.cursor + 1 < s.tx.len →
      ∃ a t u v, exec i s = .next a ∧
        a.data = Memory.read Config.txPowerOn s.tx.bytes s.tx.cursor ∧ a.tx.cursor = s.tx.cursor + 1 ∧
        exec .status38 (periphEvent .free 0x07#5 x a) = .next t ∧
        exec .status08 (periphEvent .free 0x01#5 y t) = .next u ∧
        exec .status18 (periphEvent .free 0x03#5 z u) = .next v ∧
        v.data = Memory.read Config.txPowerOn s.tx.bytes (s.tx.cursor + 1) ∧ v.tx.cursor = s.tx.cursor + 2 ∧
        v.tx.bytes = s.tx.bytes ∧ v.lastError = .arbitrationLost) ∧
    (s.tx.cursor < s.tx.len →
      ∃ a t u v, exec .status08 s = .next a ∧
        exec .status38 (periphEvent .free 0x07#5 x a) = .next t ∧
        exec .status08 (periphEvent .free 0x01#5 y t) = .next u ∧
        exec .status18 (periphEvent .free 0x03#5 z u) = .next v ∧
        v.data = Memory.read Config.txPowerOn s.tx.bytes s.tx.cursor ∧ v.tx.cursor = s.tx.cursor + 1 ∧
        v.tx.bytes = s.tx.bytes ∧ v.lastError = .arbitrationLost)

/-- R146, R168, R113, R158: each event of the datasheet's peripheral is one of the free peripheral. In every state, however
it was reached, it presents no address code with `EA = 0` and no general-call address with `GCE = 0`; and while the block is
not addressed, idle or after status 0x88 or 0x98, with `EA = 0` and `STA = 0` it presents nothing but a bus error. That the
conditions on `EA` and `GCE` hold in every row is deduced (log 17); the rows for idle, and how R146 is read where it is silent,
are the model's choice (log 9, 16). -/
def Obligations.DatasheetPeripheralRefinesTheFreeOne : Prop :=
  ∀ (s : State) (f : StatusField) (d : Byte),
    (periphEvent .datasheet f d s = s ∨ periphEvent .datasheet f d s = periphEvent .free f d s) ∧
    (ctrlEa s.ctrl = false → f ∈ [0x0C#5, 0x0D#5, 0x0E#5, 0x0F#5, 0x15#5, 0x16#5] → periphEvent .datasheet f d s = s) ∧
    (s.addr.getLsbD 0 = false → f ∈ [0x0E#5, 0x0F#5] → periphEvent .datasheet f d s = s) ∧
    (s.busIdle = true ∨ s.status &&& 0xF8#8 = 0x88#8 ∨ s.status &&& 0xF8#8 = 0x98#8 → ctrlEa s.ctrl = false →
      ctrlSta s.ctrl = false → f ≠ 0x00#5 → periphEvent .datasheet f d s = s)
end

