-- ==== Sys2Proof/Laws/Decode.lean ====
section
/-! SUPPORT. The bytes of a call's operands read back. -/

namespace Sys2Proof

/-- Byte `k` of a natural as a number. -/
theorem byteOf_toNat (n k : Nat) : (byteOf n k).toNat = n / 256 ^ k % 256 := by
  simp [byteOf]

/-- An operand that fits a byte reads back from it. -/
theorem byteOf_zero_toNat {n : Nat} (h : n < 256) : (byteOf n 0).toNat = n := by
  rw [byteOf_toNat]; omega

/-- A speed that fits four bytes reads back from them, most significant first (R75). -/
theorem speedOfBytes_byteOf {n : Nat} (h : n < 4294967296) :
    speedOfBytes (byteOf n 3) (byteOf n 2) (byteOf n 1) (byteOf n 0) = n := by
  simp only [speedOfBytes, byteOf_toNat]
  omega

/-- The four flags read back from the flags byte (R75). -/
theorem flagsByte_bits : ∀ a i k g : Bool,
    (flagsByte a i k g).getLsbD 0 = a ∧ (flagsByte a i k g).getLsbD 1 = i ∧
      (flagsByte a i k g).getLsbD 2 = k ∧ (flagsByte a i k g).getLsbD 3 = g := by
  decide

end Sys2Proof
end

