-- ==== Sys2Proof/Laws/Flags.lean ====
section
/-! SUPPORT. The bits of `CTRL` and `STATUS` after each way of writing them. -/

namespace Sys2Proof.Machine

/-- A Boolean at a place of a byte, bit by bit. -/
theorem getLsbD_bitAt (b : Bool) (i j : Nat) (hi : i < 8) (hj : j < 8) :
    (bitAt b i).getLsbD j = (b && decide (i = j)) := by
  have key : ∀ x y : Fin 8, ∀ c : Bool, (bitAt c x.val).getLsbD y.val = (c && decide (x.val = y.val)) := by decide
  exact key ⟨i, hi⟩ ⟨j, hj⟩ b

/-- The control word of R66 written to `CTRL`: `INT` is cleared, `EN` and `IE` kept, the three requests as given, and
the bits the block cannot write left as they were. -/
theorem ctrlAfterWrite_ctl (c : Byte) (sta sto ea : Bool) :
    ctrlAfterWrite c (ctl c sta sto ea) = (c &&& 0x0F#8) ||| bitAt ea 6 ||| bitAt sta 5 ||| bitAt sto 4 := by
  revert c sta sto ea
  decide +kernel

/-- `CTRL` after a control word that follows a write of `DATA`: `WC` is cleared as well. -/
theorem ctrlAfterWrite_ctl_clearWc (c : Byte) (sta sto ea : Bool) :
    ctrlAfterWrite (ctrlClearWc c) (ctl (ctrlClearWc c) sta sto ea) =
      (c &&& 0x07#8) ||| bitAt ea 6 ||| bitAt sta 5 ||| bitAt sto 4 := by
  revert c sta sto ea
  decide +kernel

/-- A word with bit 7 set clears `INT` (R19). -/
theorem ctrlInt_ctrlAfterWrite_ctl (c : Byte) (sta sto ea : Bool) :
    ctrlInt (ctrlAfterWrite c (ctl c sta sto ea)) = false := by
  revert c sta sto ea
  decide +kernel

/-- A control word keeps the peripheral's enable (R66). -/
@[simp] theorem ctrlEn_ctrlAfterWrite_ctl (c : Byte) (sta sto ea : Bool) :
    ctrlEn (ctrlAfterWrite c (ctl c sta sto ea)) = ctrlEn c := by
  revert c sta sto ea
  decide +kernel

/-- A control word keeps the interrupt enable (R66). -/
@[simp] theorem ctrlIe_ctrlAfterWrite_ctl (c : Byte) (sta sto ea : Bool) :
    ctrlIe (ctrlAfterWrite c (ctl c sta sto ea)) = ctrlIe c := by
  revert c sta sto ea
  decide +kernel

/-- A write of `CTRL` does not change `WC` (R19). -/
@[simp] theorem ctrlWc_ctrlAfterWrite (old v : Byte) : ctrlWc (ctrlAfterWrite old v) = ctrlWc old := by
  unfold ctrlWc ctrlAfterWrite
  split <;> simp

/-- A write of `CTRL` does not change the reserved bit (R19). -/
@[simp] theorem bit1_ctrlAfterWrite (old v : Byte) : (ctrlAfterWrite old v).getLsbD 1 = old.getLsbD 1 := by
  unfold ctrlAfterWrite
  split <;> simp

/-- The flags that a write of `DATA` does not touch. -/
@[simp] theorem ctrlInt_ctrlClearWc (c : Byte) : ctrlInt (ctrlClearWc c) = ctrlInt c := by
  simp [ctrlInt, ctrlClearWc]

@[simp] theorem ctrlEn_ctrlClearWc (c : Byte) : ctrlEn (ctrlClearWc c) = ctrlEn c := by
  simp [ctrlEn, ctrlClearWc]

@[simp] theorem ctrlIe_ctrlClearWc (c : Byte) : ctrlIe (ctrlClearWc c) = ctrlIe c := by
  simp [ctrlIe, ctrlClearWc]

@[simp] theorem ctrlWc_ctrlClearWc (c : Byte) : ctrlWc (ctrlClearWc c) = false := by
  simp [ctrlWc, ctrlClearWc]

@[simp] theorem bit1_ctrlClearWc (c : Byte) : (ctrlClearWc c).getLsbD 1 = c.getLsbD 1 := by
  simp [ctrlClearWc]

@[simp] theorem ctrlEn_ctrlSetWc (c : Byte) : ctrlEn (ctrlSetWc c) = ctrlEn c := by
  simp [ctrlEn, ctrlSetWc]

@[simp] theorem ctrlIe_ctrlSetWc (c : Byte) : ctrlIe (ctrlSetWc c) = ctrlIe c := by
  simp [ctrlIe, ctrlSetWc]

/-- PERIPH sets `INT` and no other bit (R144). -/
@[simp] theorem ctrlInt_ctrlSetInt (c : Byte) : ctrlInt (ctrlSetInt c) = true := by
  simp [ctrlInt, ctrlSetInt]

@[simp] theorem ctrlEn_ctrlSetInt (c : Byte) : ctrlEn (ctrlSetInt c) = ctrlEn c := by
  simp [ctrlEn, ctrlSetInt]

@[simp] theorem ctrlIe_ctrlSetInt (c : Byte) : ctrlIe (ctrlSetInt c) = ctrlIe c := by
  simp [ctrlIe, ctrlSetInt]

@[simp] theorem ctrlWc_ctrlSetInt (c : Byte) : ctrlWc (ctrlSetInt c) = ctrlWc c := by
  simp [ctrlWc, ctrlSetInt]

@[simp] theorem bit1_ctrlSetInt (c : Byte) : (ctrlSetInt c).getLsbD 1 = c.getLsbD 1 := by
  simp [ctrlSetInt]

/-- PERIPH clears `STO` and no other bit (R145). -/
@[simp] theorem ctrlInt_ctrlClearSto (c : Byte) : ctrlInt (ctrlClearSto c) = ctrlInt c := by
  simp [ctrlInt, ctrlClearSto]

@[simp] theorem ctrlEn_ctrlClearSto (c : Byte) : ctrlEn (ctrlClearSto c) = ctrlEn c := by
  simp [ctrlEn, ctrlClearSto]

@[simp] theorem ctrlIe_ctrlClearSto (c : Byte) : ctrlIe (ctrlClearSto c) = ctrlIe c := by
  simp [ctrlIe, ctrlClearSto]

@[simp] theorem ctrlWc_ctrlClearSto (c : Byte) : ctrlWc (ctrlClearSto c) = ctrlWc c := by
  simp [ctrlWc, ctrlClearSto]

@[simp] theorem bit1_ctrlClearSto (c : Byte) : (ctrlClearSto c).getLsbD 1 = c.getLsbD 1 := by
  simp [ctrlClearSto]

/-- The code PERIPH presents is the code HANDLER reads (R65, R144). -/
theorem statusCode_statusSetCode (st : Byte) (f : StatusField) :
    statusCode (statusSetCode st f) = f.zeroExtend 8 <<< 3 := by
  revert st f
  decide +kernel

/-- PERIPH keeps the prescaler (R144). -/
theorem prescaler_statusSetCode (st : Byte) (f : StatusField) :
    statusSetCode st f &&& 0x03#8 = st &&& 0x03#8 := by
  revert st f
  decide +kernel

/-- PERIPH keeps the reserved bit of `STATUS` (R144). -/
theorem bit2_statusSetCode (st : Byte) (f : StatusField) :
    (statusSetCode st f).getLsbD 2 = st.getLsbD 2 := by
  revert st f
  decide +kernel

end Sys2Proof.Machine
end

