-- ==== Sys2Proof/Laws/State.lean ====
section
/-! SUPPORT. What each named update of the state leaves in each field, so that no proof unfolds a record update. -/

namespace Sys2Proof.Machine

variable (s : State)

/-! `writeCtrl` -/

@[simp] theorem writeCtrl_ctrl (v : Byte) : (s.writeCtrl v).ctrl = ctrlAfterWrite s.ctrl v := rfl
@[simp] theorem writeCtrl_status (v : Byte) : (s.writeCtrl v).status = s.status := rfl
@[simp] theorem writeCtrl_data (v : Byte) : (s.writeCtrl v).data = s.data := rfl
@[simp] theorem writeCtrl_addr (v : Byte) : (s.writeCtrl v).addr = s.addr := rfl
@[simp] theorem writeCtrl_bitrate (v : Byte) : (s.writeCtrl v).bitrate = s.bitrate := rfl
@[simp] theorem writeCtrl_amr (v : Byte) : (s.writeCtrl v).amr = s.amr := rfl
@[simp] theorem writeCtrl_gie (v : Byte) : (s.writeCtrl v).gie = s.gie := rfl
@[simp] theorem writeCtrl_cfg (v : Byte) : (s.writeCtrl v).cfg = s.cfg := rfl
@[simp] theorem writeCtrl_direction (v : Byte) : (s.writeCtrl v).direction = s.direction := rfl
@[simp] theorem writeCtrl_target (v : Byte) : (s.writeCtrl v).target = s.target := rfl
@[simp] theorem writeCtrl_tx (v : Byte) : (s.writeCtrl v).tx = s.tx := rfl
@[simp] theorem writeCtrl_rx (v : Byte) : (s.writeCtrl v).rx = s.rx := rfl
@[simp] theorem writeCtrl_lastError (v : Byte) : (s.writeCtrl v).lastError = s.lastError := rfl
@[simp] theorem writeCtrl_ackLatch (v : Byte) : (s.writeCtrl v).ackLatch = s.ackLatch := rfl
@[simp] theorem writeCtrl_found (v : Byte) : (s.writeCtrl v).found = s.found := rfl
@[simp] theorem writeCtrl_discoveredOk (v : Byte) : (s.writeCtrl v).discoveredOk = s.discoveredOk := rfl
@[simp] theorem writeCtrl_xferActive (v : Byte) : (s.writeCtrl v).xferActive = s.xferActive := rfl
@[simp] theorem writeCtrl_faults (v : Byte) : (s.writeCtrl v).faults = s.faults := rfl
@[simp] theorem writeCtrl_refused (v : Byte) : (s.writeCtrl v).refused = s.refused := rfl
@[simp] theorem writeCtrl_debugOut (v : Byte) : (s.writeCtrl v).debugOut = s.debugOut := rfl
@[simp] theorem writeCtrl_disc (v : Byte) : (s.writeCtrl v).disc = s.disc := rfl
@[simp] theorem writeCtrl_busIdle (v : Byte) : (s.writeCtrl v).busIdle = s.busIdle := rfl
@[simp] theorem writeCtrl_program (v : Byte) : (s.writeCtrl v).program = s.program := rfl
@[simp] theorem writeCtrl_returns (v : Byte) : (s.writeCtrl v).returns = s.returns := rfl
@[simp] theorem writeCtrl_sched (v : Byte) : (s.writeCtrl v).sched = s.sched := rfl
@[simp] theorem writeCtrl_tick (v : Byte) : (s.writeCtrl v).tick = s.tick := rfl

/-! `writeData` -/

@[simp] theorem writeData_ctrl (v : Byte) : (s.writeData v).ctrl = (if ctrlInt s.ctrl then ctrlClearWc s.ctrl else ctrlSetWc s.ctrl) := by unfold State.writeData; split <;> simp_all
@[simp] theorem writeData_status (v : Byte) : (s.writeData v).status = s.status := by unfold State.writeData; split <;> rfl
@[simp] theorem writeData_data (v : Byte) : (s.writeData v).data = (if ctrlInt s.ctrl then v else s.data) := by unfold State.writeData; split <;> simp_all
@[simp] theorem writeData_addr (v : Byte) : (s.writeData v).addr = s.addr := by unfold State.writeData; split <;> rfl
@[simp] theorem writeData_bitrate (v : Byte) : (s.writeData v).bitrate = s.bitrate := by unfold State.writeData; split <;> rfl
@[simp] theorem writeData_amr (v : Byte) : (s.writeData v).amr = s.amr := by unfold State.writeData; split <;> rfl
@[simp] theorem writeData_gie (v : Byte) : (s.writeData v).gie = s.gie := by unfold State.writeData; split <;> rfl
@[simp] theorem writeData_cfg (v : Byte) : (s.writeData v).cfg = s.cfg := by unfold State.writeData; split <;> rfl
@[simp] theorem writeData_direction (v : Byte) : (s.writeData v).direction = s.direction := by unfold State.writeData; split <;> rfl
@[simp] theorem writeData_target (v : Byte) : (s.writeData v).target = s.target := by unfold State.writeData; split <;> rfl
@[simp] theorem writeData_tx (v : Byte) : (s.writeData v).tx = s.tx := by unfold State.writeData; split <;> rfl
@[simp] theorem writeData_rx (v : Byte) : (s.writeData v).rx = s.rx := by unfold State.writeData; split <;> rfl
@[simp] theorem writeData_lastError (v : Byte) : (s.writeData v).lastError = s.lastError := by unfold State.writeData; split <;> rfl
@[simp] theorem writeData_ackLatch (v : Byte) : (s.writeData v).ackLatch = s.ackLatch := by unfold State.writeData; split <;> rfl
@[simp] theorem writeData_found (v : Byte) : (s.writeData v).found = s.found := by unfold State.writeData; split <;> rfl
@[simp] theorem writeData_discoveredOk (v : Byte) : (s.writeData v).discoveredOk = s.discoveredOk := by unfold State.writeData; split <;> rfl
@[simp] theorem writeData_xferActive (v : Byte) : (s.writeData v).xferActive = s.xferActive := by unfold State.writeData; split <;> rfl
@[simp] theorem writeData_faults (v : Byte) : (s.writeData v).faults = s.faults := by unfold State.writeData; split <;> rfl
@[simp] theorem writeData_refused (v : Byte) : (s.writeData v).refused = s.refused := by unfold State.writeData; split <;> rfl
@[simp] theorem writeData_debugOut (v : Byte) : (s.writeData v).debugOut = s.debugOut := by unfold State.writeData; split <;> rfl
@[simp] theorem writeData_disc (v : Byte) : (s.writeData v).disc = s.disc := by unfold State.writeData; split <;> rfl
@[simp] theorem writeData_busIdle (v : Byte) : (s.writeData v).busIdle = s.busIdle := by unfold State.writeData; split <;> rfl
@[simp] theorem writeData_program (v : Byte) : (s.writeData v).program = s.program := by unfold State.writeData; split <;> rfl
@[simp] theorem writeData_returns (v : Byte) : (s.writeData v).returns = s.returns := by unfold State.writeData; split <;> rfl
@[simp] theorem writeData_sched (v : Byte) : (s.writeData v).sched = s.sched := by unfold State.writeData; split <;> rfl
@[simp] theorem writeData_tick (v : Byte) : (s.writeData v).tick = s.tick := by unfold State.writeData; split <;> rfl

/-! `finishCtl` -/

@[simp] theorem finishCtl_ctrl (a b c : Bool) : (finishCtl a b c s).ctrl = ctrlAfterWrite s.ctrl (ctl s.ctrl a b c) := rfl
@[simp] theorem finishCtl_status (a b c : Bool) : (finishCtl a b c s).status = s.status := rfl
@[simp] theorem finishCtl_data (a b c : Bool) : (finishCtl a b c s).data = s.data := rfl
@[simp] theorem finishCtl_addr (a b c : Bool) : (finishCtl a b c s).addr = s.addr := rfl
@[simp] theorem finishCtl_bitrate (a b c : Bool) : (finishCtl a b c s).bitrate = s.bitrate := rfl
@[simp] theorem finishCtl_amr (a b c : Bool) : (finishCtl a b c s).amr = s.amr := rfl
@[simp] theorem finishCtl_gie (a b c : Bool) : (finishCtl a b c s).gie = s.gie := rfl
@[simp] theorem finishCtl_cfg (a b c : Bool) : (finishCtl a b c s).cfg = s.cfg := rfl
@[simp] theorem finishCtl_direction (a b c : Bool) : (finishCtl a b c s).direction = s.direction := rfl
@[simp] theorem finishCtl_target (a b c : Bool) : (finishCtl a b c s).target = s.target := rfl
@[simp] theorem finishCtl_tx (a b c : Bool) : (finishCtl a b c s).tx = s.tx := rfl
@[simp] theorem finishCtl_rx (a b c : Bool) : (finishCtl a b c s).rx = s.rx := rfl
@[simp] theorem finishCtl_lastError (a b c : Bool) : (finishCtl a b c s).lastError = s.lastError := rfl
@[simp] theorem finishCtl_ackLatch (a b c : Bool) : (finishCtl a b c s).ackLatch = s.ackLatch := rfl
@[simp] theorem finishCtl_found (a b c : Bool) : (finishCtl a b c s).found = s.found := rfl
@[simp] theorem finishCtl_discoveredOk (a b c : Bool) : (finishCtl a b c s).discoveredOk = s.discoveredOk := rfl
@[simp] theorem finishCtl_xferActive (a b c : Bool) : (finishCtl a b c s).xferActive = s.xferActive := rfl
@[simp] theorem finishCtl_faults (a b c : Bool) : (finishCtl a b c s).faults = s.faults := rfl
@[simp] theorem finishCtl_refused (a b c : Bool) : (finishCtl a b c s).refused = s.refused := rfl
@[simp] theorem finishCtl_debugOut (a b c : Bool) : (finishCtl a b c s).debugOut = s.debugOut := rfl
@[simp] theorem finishCtl_disc (a b c : Bool) : (finishCtl a b c s).disc = s.disc := rfl
@[simp] theorem finishCtl_busIdle (a b c : Bool) : (finishCtl a b c s).busIdle = s.busIdle := rfl
@[simp] theorem finishCtl_program (a b c : Bool) : (finishCtl a b c s).program = s.program := rfl
@[simp] theorem finishCtl_returns (a b c : Bool) : (finishCtl a b c s).returns = s.returns := rfl
@[simp] theorem finishCtl_sched (a b c : Bool) : (finishCtl a b c s).sched = s.sched := rfl
@[simp] theorem finishCtl_tick (a b c : Bool) : (finishCtl a b c s).tick = s.tick := rfl

/-! `txFill` -/

@[simp] theorem txFill_ctrl (bs : List Byte) : (txFill bs s).ctrl = s.ctrl := rfl
@[simp] theorem txFill_status (bs : List Byte) : (txFill bs s).status = s.status := rfl
@[simp] theorem txFill_data (bs : List Byte) : (txFill bs s).data = s.data := rfl
@[simp] theorem txFill_addr (bs : List Byte) : (txFill bs s).addr = s.addr := rfl
@[simp] theorem txFill_bitrate (bs : List Byte) : (txFill bs s).bitrate = s.bitrate := rfl
@[simp] theorem txFill_amr (bs : List Byte) : (txFill bs s).amr = s.amr := rfl
@[simp] theorem txFill_gie (bs : List Byte) : (txFill bs s).gie = s.gie := rfl
@[simp] theorem txFill_cfg (bs : List Byte) : (txFill bs s).cfg = s.cfg := rfl
@[simp] theorem txFill_direction (bs : List Byte) : (txFill bs s).direction = s.direction := rfl
@[simp] theorem txFill_target (bs : List Byte) : (txFill bs s).target = s.target := rfl
@[simp] theorem txFill_tx (bs : List Byte) : (txFill bs s).tx = { live := true, len := bs.length, cursor := 0, bytes := Memory.writeList s.tx.bytes 0 bs } := rfl
@[simp] theorem txFill_rx (bs : List Byte) : (txFill bs s).rx = s.rx := rfl
@[simp] theorem txFill_lastError (bs : List Byte) : (txFill bs s).lastError = s.lastError := rfl
@[simp] theorem txFill_ackLatch (bs : List Byte) : (txFill bs s).ackLatch = s.ackLatch := rfl
@[simp] theorem txFill_found (bs : List Byte) : (txFill bs s).found = s.found := rfl
@[simp] theorem txFill_discoveredOk (bs : List Byte) : (txFill bs s).discoveredOk = s.discoveredOk := rfl
@[simp] theorem txFill_xferActive (bs : List Byte) : (txFill bs s).xferActive = s.xferActive := rfl
@[simp] theorem txFill_faults (bs : List Byte) : (txFill bs s).faults = s.faults := rfl
@[simp] theorem txFill_refused (bs : List Byte) : (txFill bs s).refused = s.refused := rfl
@[simp] theorem txFill_debugOut (bs : List Byte) : (txFill bs s).debugOut = s.debugOut := rfl
@[simp] theorem txFill_disc (bs : List Byte) : (txFill bs s).disc = s.disc := rfl
@[simp] theorem txFill_busIdle (bs : List Byte) : (txFill bs s).busIdle = s.busIdle := rfl
@[simp] theorem txFill_program (bs : List Byte) : (txFill bs s).program = s.program := rfl
@[simp] theorem txFill_returns (bs : List Byte) : (txFill bs s).returns = s.returns := rfl
@[simp] theorem txFill_sched (bs : List Byte) : (txFill bs s).sched = s.sched := rfl
@[simp] theorem txFill_tick (bs : List Byte) : (txFill bs s).tick = s.tick := rfl

/-! `txAdvance` -/

@[simp] theorem txAdvance_ctrl : (txAdvance s).ctrl = s.ctrl := rfl
@[simp] theorem txAdvance_status : (txAdvance s).status = s.status := rfl
@[simp] theorem txAdvance_data : (txAdvance s).data = s.data := rfl
@[simp] theorem txAdvance_addr : (txAdvance s).addr = s.addr := rfl
@[simp] theorem txAdvance_bitrate : (txAdvance s).bitrate = s.bitrate := rfl
@[simp] theorem txAdvance_amr : (txAdvance s).amr = s.amr := rfl
@[simp] theorem txAdvance_gie : (txAdvance s).gie = s.gie := rfl
@[simp] theorem txAdvance_cfg : (txAdvance s).cfg = s.cfg := rfl
@[simp] theorem txAdvance_direction : (txAdvance s).direction = s.direction := rfl
@[simp] theorem txAdvance_target : (txAdvance s).target = s.target := rfl
@[simp] theorem txAdvance_tx : (txAdvance s).tx = { s.tx with cursor := s.tx.cursor + 1 } := rfl
@[simp] theorem txAdvance_rx : (txAdvance s).rx = s.rx := rfl
@[simp] theorem txAdvance_lastError : (txAdvance s).lastError = s.lastError := rfl
@[simp] theorem txAdvance_ackLatch : (txAdvance s).ackLatch = s.ackLatch := rfl
@[simp] theorem txAdvance_found : (txAdvance s).found = s.found := rfl
@[simp] theorem txAdvance_discoveredOk : (txAdvance s).discoveredOk = s.discoveredOk := rfl
@[simp] theorem txAdvance_xferActive : (txAdvance s).xferActive = s.xferActive := rfl
@[simp] theorem txAdvance_faults : (txAdvance s).faults = s.faults := rfl
@[simp] theorem txAdvance_refused : (txAdvance s).refused = s.refused := rfl
@[simp] theorem txAdvance_debugOut : (txAdvance s).debugOut = s.debugOut := rfl
@[simp] theorem txAdvance_disc : (txAdvance s).disc = s.disc := rfl
@[simp] theorem txAdvance_busIdle : (txAdvance s).busIdle = s.busIdle := rfl
@[simp] theorem txAdvance_program : (txAdvance s).program = s.program := rfl
@[simp] theorem txAdvance_returns : (txAdvance s).returns = s.returns := rfl
@[simp] theorem txAdvance_sched : (txAdvance s).sched = s.sched := rfl
@[simp] theorem txAdvance_tick : (txAdvance s).tick = s.tick := rfl

/-! `txRelease` -/

@[simp] theorem txRelease_ctrl : (txRelease s).ctrl = s.ctrl := rfl
@[simp] theorem txRelease_status : (txRelease s).status = s.status := rfl
@[simp] theorem txRelease_data : (txRelease s).data = s.data := rfl
@[simp] theorem txRelease_addr : (txRelease s).addr = s.addr := rfl
@[simp] theorem txRelease_bitrate : (txRelease s).bitrate = s.bitrate := rfl
@[simp] theorem txRelease_amr : (txRelease s).amr = s.amr := rfl
@[simp] theorem txRelease_gie : (txRelease s).gie = s.gie := rfl
@[simp] theorem txRelease_cfg : (txRelease s).cfg = s.cfg := rfl
@[simp] theorem txRelease_direction : (txRelease s).direction = s.direction := rfl
@[simp] theorem txRelease_target : (txRelease s).target = s.target := rfl
@[simp] theorem txRelease_tx : (txRelease s).tx = { s.tx with live := false, len := 0, cursor := 0 } := rfl
@[simp] theorem txRelease_rx : (txRelease s).rx = s.rx := rfl
@[simp] theorem txRelease_lastError : (txRelease s).lastError = s.lastError := rfl
@[simp] theorem txRelease_ackLatch : (txRelease s).ackLatch = s.ackLatch := rfl
@[simp] theorem txRelease_found : (txRelease s).found = s.found := rfl
@[simp] theorem txRelease_discoveredOk : (txRelease s).discoveredOk = s.discoveredOk := rfl
@[simp] theorem txRelease_xferActive : (txRelease s).xferActive = s.xferActive := rfl
@[simp] theorem txRelease_faults : (txRelease s).faults = s.faults := rfl
@[simp] theorem txRelease_refused : (txRelease s).refused = s.refused := rfl
@[simp] theorem txRelease_debugOut : (txRelease s).debugOut = s.debugOut := rfl
@[simp] theorem txRelease_disc : (txRelease s).disc = s.disc := rfl
@[simp] theorem txRelease_busIdle : (txRelease s).busIdle = s.busIdle := rfl
@[simp] theorem txRelease_program : (txRelease s).program = s.program := rfl
@[simp] theorem txRelease_returns : (txRelease s).returns = s.returns := rfl
@[simp] theorem txRelease_sched : (txRelease s).sched = s.sched := rfl
@[simp] theorem txRelease_tick : (txRelease s).tick = s.tick := rfl

/-! `rxAppend` -/

@[simp] theorem rxAppend_ctrl (b : Byte) : (rxAppend b s).ctrl = s.ctrl := rfl
@[simp] theorem rxAppend_status (b : Byte) : (rxAppend b s).status = s.status := rfl
@[simp] theorem rxAppend_data (b : Byte) : (rxAppend b s).data = s.data := rfl
@[simp] theorem rxAppend_addr (b : Byte) : (rxAppend b s).addr = s.addr := rfl
@[simp] theorem rxAppend_bitrate (b : Byte) : (rxAppend b s).bitrate = s.bitrate := rfl
@[simp] theorem rxAppend_amr (b : Byte) : (rxAppend b s).amr = s.amr := rfl
@[simp] theorem rxAppend_gie (b : Byte) : (rxAppend b s).gie = s.gie := rfl
@[simp] theorem rxAppend_cfg (b : Byte) : (rxAppend b s).cfg = s.cfg := rfl
@[simp] theorem rxAppend_direction (b : Byte) : (rxAppend b s).direction = s.direction := rfl
@[simp] theorem rxAppend_target (b : Byte) : (rxAppend b s).target = s.target := rfl
@[simp] theorem rxAppend_tx (b : Byte) : (rxAppend b s).tx = s.tx := rfl
@[simp] theorem rxAppend_rx (b : Byte) : (rxAppend b s).rx = rxStore b (rxAlloc s.rx) := rfl
@[simp] theorem rxAppend_lastError (b : Byte) : (rxAppend b s).lastError = s.lastError := rfl
@[simp] theorem rxAppend_ackLatch (b : Byte) : (rxAppend b s).ackLatch = s.ackLatch := rfl
@[simp] theorem rxAppend_found (b : Byte) : (rxAppend b s).found = s.found := rfl
@[simp] theorem rxAppend_discoveredOk (b : Byte) : (rxAppend b s).discoveredOk = s.discoveredOk := rfl
@[simp] theorem rxAppend_xferActive (b : Byte) : (rxAppend b s).xferActive = s.xferActive := rfl
@[simp] theorem rxAppend_faults (b : Byte) : (rxAppend b s).faults = s.faults := rfl
@[simp] theorem rxAppend_refused (b : Byte) : (rxAppend b s).refused = s.refused := rfl
@[simp] theorem rxAppend_debugOut (b : Byte) : (rxAppend b s).debugOut = s.debugOut := rfl
@[simp] theorem rxAppend_disc (b : Byte) : (rxAppend b s).disc = s.disc := rfl
@[simp] theorem rxAppend_busIdle (b : Byte) : (rxAppend b s).busIdle = s.busIdle := rfl
@[simp] theorem rxAppend_program (b : Byte) : (rxAppend b s).program = s.program := rfl
@[simp] theorem rxAppend_returns (b : Byte) : (rxAppend b s).returns = s.returns := rfl
@[simp] theorem rxAppend_sched (b : Byte) : (rxAppend b s).sched = s.sched := rfl
@[simp] theorem rxAppend_tick (b : Byte) : (rxAppend b s).tick = s.tick := rfl

/-! `rxSentinel` -/

@[simp] theorem rxSentinel_ctrl : (rxSentinel s).ctrl = s.ctrl := by unfold rxSentinel; split <;> rfl
@[simp] theorem rxSentinel_status : (rxSentinel s).status = s.status := by unfold rxSentinel; split <;> rfl
@[simp] theorem rxSentinel_data : (rxSentinel s).data = s.data := by unfold rxSentinel; split <;> rfl
@[simp] theorem rxSentinel_addr : (rxSentinel s).addr = s.addr := by unfold rxSentinel; split <;> rfl
@[simp] theorem rxSentinel_bitrate : (rxSentinel s).bitrate = s.bitrate := by unfold rxSentinel; split <;> rfl
@[simp] theorem rxSentinel_amr : (rxSentinel s).amr = s.amr := by unfold rxSentinel; split <;> rfl
@[simp] theorem rxSentinel_gie : (rxSentinel s).gie = s.gie := by unfold rxSentinel; split <;> rfl
@[simp] theorem rxSentinel_cfg : (rxSentinel s).cfg = s.cfg := by unfold rxSentinel; split <;> rfl
@[simp] theorem rxSentinel_direction : (rxSentinel s).direction = s.direction := by unfold rxSentinel; split <;> rfl
@[simp] theorem rxSentinel_target : (rxSentinel s).target = s.target := by unfold rxSentinel; split <;> rfl
@[simp] theorem rxSentinel_tx : (rxSentinel s).tx = s.tx := by unfold rxSentinel; split <;> rfl
@[simp] theorem rxSentinel_rx : (rxSentinel s).rx = (if s.rx.live then rxPut s.rx s.rx.cursor Config.sentinel else s.rx) := by unfold rxSentinel; split <;> simp_all
@[simp] theorem rxSentinel_lastError : (rxSentinel s).lastError = s.lastError := by unfold rxSentinel; split <;> rfl
@[simp] theorem rxSentinel_ackLatch : (rxSentinel s).ackLatch = s.ackLatch := by unfold rxSentinel; split <;> rfl
@[simp] theorem rxSentinel_found : (rxSentinel s).found = s.found := by unfold rxSentinel; split <;> rfl
@[simp] theorem rxSentinel_discoveredOk : (rxSentinel s).discoveredOk = s.discoveredOk := by unfold rxSentinel; split <;> rfl
@[simp] theorem rxSentinel_xferActive : (rxSentinel s).xferActive = s.xferActive := by unfold rxSentinel; split <;> rfl
@[simp] theorem rxSentinel_faults : (rxSentinel s).faults = s.faults := by unfold rxSentinel; split <;> rfl
@[simp] theorem rxSentinel_refused : (rxSentinel s).refused = s.refused := by unfold rxSentinel; split <;> rfl
@[simp] theorem rxSentinel_debugOut : (rxSentinel s).debugOut = s.debugOut := by unfold rxSentinel; split <;> rfl
@[simp] theorem rxSentinel_disc : (rxSentinel s).disc = s.disc := by unfold rxSentinel; split <;> rfl
@[simp] theorem rxSentinel_busIdle : (rxSentinel s).busIdle = s.busIdle := by unfold rxSentinel; split <;> rfl
@[simp] theorem rxSentinel_program : (rxSentinel s).program = s.program := by unfold rxSentinel; split <;> rfl
@[simp] theorem rxSentinel_returns : (rxSentinel s).returns = s.returns := by unfold rxSentinel; split <;> rfl
@[simp] theorem rxSentinel_sched : (rxSentinel s).sched = s.sched := by unfold rxSentinel; split <;> rfl
@[simp] theorem rxSentinel_tick : (rxSentinel s).tick = s.tick := by unfold rxSentinel; split <;> rfl

/-! `rxRelease` -/

@[simp] theorem rxRelease_ctrl : (rxRelease s).ctrl = s.ctrl := rfl
@[simp] theorem rxRelease_status : (rxRelease s).status = s.status := rfl
@[simp] theorem rxRelease_data : (rxRelease s).data = s.data := rfl
@[simp] theorem rxRelease_addr : (rxRelease s).addr = s.addr := rfl
@[simp] theorem rxRelease_bitrate : (rxRelease s).bitrate = s.bitrate := rfl
@[simp] theorem rxRelease_amr : (rxRelease s).amr = s.amr := rfl
@[simp] theorem rxRelease_gie : (rxRelease s).gie = s.gie := rfl
@[simp] theorem rxRelease_cfg : (rxRelease s).cfg = s.cfg := rfl
@[simp] theorem rxRelease_direction : (rxRelease s).direction = s.direction := rfl
@[simp] theorem rxRelease_target : (rxRelease s).target = s.target := rfl
@[simp] theorem rxRelease_tx : (rxRelease s).tx = s.tx := rfl
@[simp] theorem rxRelease_rx : (rxRelease s).rx = { s.rx with live := false, cursor := 0 } := rfl
@[simp] theorem rxRelease_lastError : (rxRelease s).lastError = s.lastError := rfl
@[simp] theorem rxRelease_ackLatch : (rxRelease s).ackLatch = s.ackLatch := rfl
@[simp] theorem rxRelease_found : (rxRelease s).found = s.found := rfl
@[simp] theorem rxRelease_discoveredOk : (rxRelease s).discoveredOk = s.discoveredOk := rfl
@[simp] theorem rxRelease_xferActive : (rxRelease s).xferActive = s.xferActive := rfl
@[simp] theorem rxRelease_faults : (rxRelease s).faults = s.faults := rfl
@[simp] theorem rxRelease_refused : (rxRelease s).refused = s.refused := rfl
@[simp] theorem rxRelease_debugOut : (rxRelease s).debugOut = s.debugOut := rfl
@[simp] theorem rxRelease_disc : (rxRelease s).disc = s.disc := rfl
@[simp] theorem rxRelease_busIdle : (rxRelease s).busIdle = s.busIdle := rfl
@[simp] theorem rxRelease_program : (rxRelease s).program = s.program := rfl
@[simp] theorem rxRelease_returns : (rxRelease s).returns = s.returns := rfl
@[simp] theorem rxRelease_sched : (rxRelease s).sched = s.sched := rfl
@[simp] theorem rxRelease_tick : (rxRelease s).tick = s.tick := rfl

/-! `setXfer` -/

@[simp] theorem setXfer_ctrl (b : Bool) : (setXfer b s).ctrl = s.ctrl := rfl
@[simp] theorem setXfer_status (b : Bool) : (setXfer b s).status = s.status := rfl
@[simp] theorem setXfer_data (b : Bool) : (setXfer b s).data = s.data := rfl
@[simp] theorem setXfer_addr (b : Bool) : (setXfer b s).addr = s.addr := rfl
@[simp] theorem setXfer_bitrate (b : Bool) : (setXfer b s).bitrate = s.bitrate := rfl
@[simp] theorem setXfer_amr (b : Bool) : (setXfer b s).amr = s.amr := rfl
@[simp] theorem setXfer_gie (b : Bool) : (setXfer b s).gie = s.gie := rfl
@[simp] theorem setXfer_cfg (b : Bool) : (setXfer b s).cfg = s.cfg := rfl
@[simp] theorem setXfer_direction (b : Bool) : (setXfer b s).direction = s.direction := rfl
@[simp] theorem setXfer_target (b : Bool) : (setXfer b s).target = s.target := rfl
@[simp] theorem setXfer_tx (b : Bool) : (setXfer b s).tx = s.tx := rfl
@[simp] theorem setXfer_rx (b : Bool) : (setXfer b s).rx = s.rx := rfl
@[simp] theorem setXfer_lastError (b : Bool) : (setXfer b s).lastError = s.lastError := rfl
@[simp] theorem setXfer_ackLatch (b : Bool) : (setXfer b s).ackLatch = s.ackLatch := rfl
@[simp] theorem setXfer_found (b : Bool) : (setXfer b s).found = s.found := rfl
@[simp] theorem setXfer_discoveredOk (b : Bool) : (setXfer b s).discoveredOk = s.discoveredOk := rfl
@[simp] theorem setXfer_xferActive (b : Bool) : (setXfer b s).xferActive = b := rfl
@[simp] theorem setXfer_faults (b : Bool) : (setXfer b s).faults = s.faults := rfl
@[simp] theorem setXfer_refused (b : Bool) : (setXfer b s).refused = s.refused := rfl
@[simp] theorem setXfer_debugOut (b : Bool) : (setXfer b s).debugOut = s.debugOut := rfl
@[simp] theorem setXfer_disc (b : Bool) : (setXfer b s).disc = s.disc := rfl
@[simp] theorem setXfer_busIdle (b : Bool) : (setXfer b s).busIdle = s.busIdle := rfl
@[simp] theorem setXfer_program (b : Bool) : (setXfer b s).program = s.program := rfl
@[simp] theorem setXfer_returns (b : Bool) : (setXfer b s).returns = s.returns := rfl
@[simp] theorem setXfer_sched (b : Bool) : (setXfer b s).sched = s.sched := rfl
@[simp] theorem setXfer_tick (b : Bool) : (setXfer b s).tick = s.tick := rfl

/-! `setError` -/

@[simp] theorem setError_ctrl (e : CommError) : (setError e s).ctrl = s.ctrl := rfl
@[simp] theorem setError_status (e : CommError) : (setError e s).status = s.status := rfl
@[simp] theorem setError_data (e : CommError) : (setError e s).data = s.data := rfl
@[simp] theorem setError_addr (e : CommError) : (setError e s).addr = s.addr := rfl
@[simp] theorem setError_bitrate (e : CommError) : (setError e s).bitrate = s.bitrate := rfl
@[simp] theorem setError_amr (e : CommError) : (setError e s).amr = s.amr := rfl
@[simp] theorem setError_gie (e : CommError) : (setError e s).gie = s.gie := rfl
@[simp] theorem setError_cfg (e : CommError) : (setError e s).cfg = s.cfg := rfl
@[simp] theorem setError_direction (e : CommError) : (setError e s).direction = s.direction := rfl
@[simp] theorem setError_target (e : CommError) : (setError e s).target = s.target := rfl
@[simp] theorem setError_tx (e : CommError) : (setError e s).tx = s.tx := rfl
@[simp] theorem setError_rx (e : CommError) : (setError e s).rx = s.rx := rfl
@[simp] theorem setError_lastError (e : CommError) : (setError e s).lastError = e := rfl
@[simp] theorem setError_ackLatch (e : CommError) : (setError e s).ackLatch = s.ackLatch := rfl
@[simp] theorem setError_found (e : CommError) : (setError e s).found = s.found := rfl
@[simp] theorem setError_discoveredOk (e : CommError) : (setError e s).discoveredOk = s.discoveredOk := rfl
@[simp] theorem setError_xferActive (e : CommError) : (setError e s).xferActive = s.xferActive := rfl
@[simp] theorem setError_faults (e : CommError) : (setError e s).faults = s.faults := rfl
@[simp] theorem setError_refused (e : CommError) : (setError e s).refused = s.refused := rfl
@[simp] theorem setError_debugOut (e : CommError) : (setError e s).debugOut = s.debugOut := rfl
@[simp] theorem setError_disc (e : CommError) : (setError e s).disc = s.disc := rfl
@[simp] theorem setError_busIdle (e : CommError) : (setError e s).busIdle = s.busIdle := rfl
@[simp] theorem setError_program (e : CommError) : (setError e s).program = s.program := rfl
@[simp] theorem setError_returns (e : CommError) : (setError e s).returns = s.returns := rfl
@[simp] theorem setError_sched (e : CommError) : (setError e s).sched = s.sched := rfl
@[simp] theorem setError_tick (e : CommError) : (setError e s).tick = s.tick := rfl

/-! `setLatch` -/

@[simp] theorem setLatch_ctrl (l : AckLatch) : (setLatch l s).ctrl = s.ctrl := rfl
@[simp] theorem setLatch_status (l : AckLatch) : (setLatch l s).status = s.status := rfl
@[simp] theorem setLatch_data (l : AckLatch) : (setLatch l s).data = s.data := rfl
@[simp] theorem setLatch_addr (l : AckLatch) : (setLatch l s).addr = s.addr := rfl
@[simp] theorem setLatch_bitrate (l : AckLatch) : (setLatch l s).bitrate = s.bitrate := rfl
@[simp] theorem setLatch_amr (l : AckLatch) : (setLatch l s).amr = s.amr := rfl
@[simp] theorem setLatch_gie (l : AckLatch) : (setLatch l s).gie = s.gie := rfl
@[simp] theorem setLatch_cfg (l : AckLatch) : (setLatch l s).cfg = s.cfg := rfl
@[simp] theorem setLatch_direction (l : AckLatch) : (setLatch l s).direction = s.direction := rfl
@[simp] theorem setLatch_target (l : AckLatch) : (setLatch l s).target = s.target := rfl
@[simp] theorem setLatch_tx (l : AckLatch) : (setLatch l s).tx = s.tx := rfl
@[simp] theorem setLatch_rx (l : AckLatch) : (setLatch l s).rx = s.rx := rfl
@[simp] theorem setLatch_lastError (l : AckLatch) : (setLatch l s).lastError = s.lastError := rfl
@[simp] theorem setLatch_ackLatch (l : AckLatch) : (setLatch l s).ackLatch = l := rfl
@[simp] theorem setLatch_found (l : AckLatch) : (setLatch l s).found = s.found := rfl
@[simp] theorem setLatch_discoveredOk (l : AckLatch) : (setLatch l s).discoveredOk = s.discoveredOk := rfl
@[simp] theorem setLatch_xferActive (l : AckLatch) : (setLatch l s).xferActive = s.xferActive := rfl
@[simp] theorem setLatch_faults (l : AckLatch) : (setLatch l s).faults = s.faults := rfl
@[simp] theorem setLatch_refused (l : AckLatch) : (setLatch l s).refused = s.refused := rfl
@[simp] theorem setLatch_debugOut (l : AckLatch) : (setLatch l s).debugOut = s.debugOut := rfl
@[simp] theorem setLatch_disc (l : AckLatch) : (setLatch l s).disc = s.disc := rfl
@[simp] theorem setLatch_busIdle (l : AckLatch) : (setLatch l s).busIdle = s.busIdle := rfl
@[simp] theorem setLatch_program (l : AckLatch) : (setLatch l s).program = s.program := rfl
@[simp] theorem setLatch_returns (l : AckLatch) : (setLatch l s).returns = s.returns := rfl
@[simp] theorem setLatch_sched (l : AckLatch) : (setLatch l s).sched = s.sched := rfl
@[simp] theorem setLatch_tick (l : AckLatch) : (setLatch l s).tick = s.tick := rfl

/-! `setDirection` -/

@[simp] theorem setDirection_ctrl (d : Direction) : (setDirection d s).ctrl = s.ctrl := rfl
@[simp] theorem setDirection_status (d : Direction) : (setDirection d s).status = s.status := rfl
@[simp] theorem setDirection_data (d : Direction) : (setDirection d s).data = s.data := rfl
@[simp] theorem setDirection_addr (d : Direction) : (setDirection d s).addr = s.addr := rfl
@[simp] theorem setDirection_bitrate (d : Direction) : (setDirection d s).bitrate = s.bitrate := rfl
@[simp] theorem setDirection_amr (d : Direction) : (setDirection d s).amr = s.amr := rfl
@[simp] theorem setDirection_gie (d : Direction) : (setDirection d s).gie = s.gie := rfl
@[simp] theorem setDirection_cfg (d : Direction) : (setDirection d s).cfg = s.cfg := rfl
@[simp] theorem setDirection_direction (d : Direction) : (setDirection d s).direction = d := rfl
@[simp] theorem setDirection_target (d : Direction) : (setDirection d s).target = s.target := rfl
@[simp] theorem setDirection_tx (d : Direction) : (setDirection d s).tx = s.tx := rfl
@[simp] theorem setDirection_rx (d : Direction) : (setDirection d s).rx = s.rx := rfl
@[simp] theorem setDirection_lastError (d : Direction) : (setDirection d s).lastError = s.lastError := rfl
@[simp] theorem setDirection_ackLatch (d : Direction) : (setDirection d s).ackLatch = s.ackLatch := rfl
@[simp] theorem setDirection_found (d : Direction) : (setDirection d s).found = s.found := rfl
@[simp] theorem setDirection_discoveredOk (d : Direction) : (setDirection d s).discoveredOk = s.discoveredOk := rfl
@[simp] theorem setDirection_xferActive (d : Direction) : (setDirection d s).xferActive = s.xferActive := rfl
@[simp] theorem setDirection_faults (d : Direction) : (setDirection d s).faults = s.faults := rfl
@[simp] theorem setDirection_refused (d : Direction) : (setDirection d s).refused = s.refused := rfl
@[simp] theorem setDirection_debugOut (d : Direction) : (setDirection d s).debugOut = s.debugOut := rfl
@[simp] theorem setDirection_disc (d : Direction) : (setDirection d s).disc = s.disc := rfl
@[simp] theorem setDirection_busIdle (d : Direction) : (setDirection d s).busIdle = s.busIdle := rfl
@[simp] theorem setDirection_program (d : Direction) : (setDirection d s).program = s.program := rfl
@[simp] theorem setDirection_returns (d : Direction) : (setDirection d s).returns = s.returns := rfl
@[simp] theorem setDirection_sched (d : Direction) : (setDirection d s).sched = s.sched := rfl
@[simp] theorem setDirection_tick (d : Direction) : (setDirection d s).tick = s.tick := rfl

/-! `emit` -/

@[simp] theorem emit_ctrl (e : Emission) : (emit e s).ctrl = s.ctrl := rfl
@[simp] theorem emit_status (e : Emission) : (emit e s).status = s.status := rfl
@[simp] theorem emit_data (e : Emission) : (emit e s).data = s.data := rfl
@[simp] theorem emit_addr (e : Emission) : (emit e s).addr = s.addr := rfl
@[simp] theorem emit_bitrate (e : Emission) : (emit e s).bitrate = s.bitrate := rfl
@[simp] theorem emit_amr (e : Emission) : (emit e s).amr = s.amr := rfl
@[simp] theorem emit_gie (e : Emission) : (emit e s).gie = s.gie := rfl
@[simp] theorem emit_cfg (e : Emission) : (emit e s).cfg = s.cfg := rfl
@[simp] theorem emit_direction (e : Emission) : (emit e s).direction = s.direction := rfl
@[simp] theorem emit_target (e : Emission) : (emit e s).target = s.target := rfl
@[simp] theorem emit_tx (e : Emission) : (emit e s).tx = s.tx := rfl
@[simp] theorem emit_rx (e : Emission) : (emit e s).rx = s.rx := rfl
@[simp] theorem emit_lastError (e : Emission) : (emit e s).lastError = s.lastError := rfl
@[simp] theorem emit_ackLatch (e : Emission) : (emit e s).ackLatch = s.ackLatch := rfl
@[simp] theorem emit_found (e : Emission) : (emit e s).found = s.found := rfl
@[simp] theorem emit_discoveredOk (e : Emission) : (emit e s).discoveredOk = s.discoveredOk := rfl
@[simp] theorem emit_xferActive (e : Emission) : (emit e s).xferActive = s.xferActive := rfl
@[simp] theorem emit_faults (e : Emission) : (emit e s).faults = s.faults := rfl
@[simp] theorem emit_refused (e : Emission) : (emit e s).refused = s.refused := rfl
@[simp] theorem emit_debugOut (e : Emission) : (emit e s).debugOut = s.debugOut ++ [e] := rfl
@[simp] theorem emit_disc (e : Emission) : (emit e s).disc = s.disc := rfl
@[simp] theorem emit_busIdle (e : Emission) : (emit e s).busIdle = s.busIdle := rfl
@[simp] theorem emit_program (e : Emission) : (emit e s).program = s.program := rfl
@[simp] theorem emit_returns (e : Emission) : (emit e s).returns = s.returns := rfl
@[simp] theorem emit_sched (e : Emission) : (emit e s).sched = s.sched := rfl
@[simp] theorem emit_tick (e : Emission) : (emit e s).tick = s.tick := rfl

/-! `markFill` -/

@[simp] theorem markFill_ctrl : (markFill s).ctrl = s.ctrl := rfl
@[simp] theorem markFill_status : (markFill s).status = s.status := rfl
@[simp] theorem markFill_data : (markFill s).data = s.data := rfl
@[simp] theorem markFill_addr : (markFill s).addr = s.addr := rfl
@[simp] theorem markFill_bitrate : (markFill s).bitrate = s.bitrate := rfl
@[simp] theorem markFill_amr : (markFill s).amr = s.amr := rfl
@[simp] theorem markFill_gie : (markFill s).gie = s.gie := rfl
@[simp] theorem markFill_cfg : (markFill s).cfg = s.cfg := rfl
@[simp] theorem markFill_direction : (markFill s).direction = s.direction := rfl
@[simp] theorem markFill_target : (markFill s).target = s.target := rfl
@[simp] theorem markFill_tx : (markFill s).tx = s.tx := rfl
@[simp] theorem markFill_rx : (markFill s).rx = s.rx := rfl
@[simp] theorem markFill_lastError : (markFill s).lastError = s.lastError := rfl
@[simp] theorem markFill_ackLatch : (markFill s).ackLatch = s.ackLatch := rfl
@[simp] theorem markFill_found : (markFill s).found = s.found := rfl
@[simp] theorem markFill_discoveredOk : (markFill s).discoveredOk = s.discoveredOk := rfl
@[simp] theorem markFill_xferActive : (markFill s).xferActive = s.xferActive := rfl
@[simp] theorem markFill_faults : (markFill s).faults = { s.faults with fillDuringTransfer := true } := rfl
@[simp] theorem markFill_refused : (markFill s).refused = s.refused := rfl
@[simp] theorem markFill_debugOut : (markFill s).debugOut = s.debugOut := rfl
@[simp] theorem markFill_disc : (markFill s).disc = s.disc := rfl
@[simp] theorem markFill_busIdle : (markFill s).busIdle = s.busIdle := rfl
@[simp] theorem markFill_program : (markFill s).program = s.program := rfl
@[simp] theorem markFill_returns : (markFill s).returns = s.returns := rfl
@[simp] theorem markFill_sched : (markFill s).sched = s.sched := rfl
@[simp] theorem markFill_tick : (markFill s).tick = s.tick := rfl

/-! `markStart` -/

@[simp] theorem markStart_ctrl : (markStart s).ctrl = s.ctrl := rfl
@[simp] theorem markStart_status : (markStart s).status = s.status := rfl
@[simp] theorem markStart_data : (markStart s).data = s.data := rfl
@[simp] theorem markStart_addr : (markStart s).addr = s.addr := rfl
@[simp] theorem markStart_bitrate : (markStart s).bitrate = s.bitrate := rfl
@[simp] theorem markStart_amr : (markStart s).amr = s.amr := rfl
@[simp] theorem markStart_gie : (markStart s).gie = s.gie := rfl
@[simp] theorem markStart_cfg : (markStart s).cfg = s.cfg := rfl
@[simp] theorem markStart_direction : (markStart s).direction = s.direction := rfl
@[simp] theorem markStart_target : (markStart s).target = s.target := rfl
@[simp] theorem markStart_tx : (markStart s).tx = s.tx := rfl
@[simp] theorem markStart_rx : (markStart s).rx = s.rx := rfl
@[simp] theorem markStart_lastError : (markStart s).lastError = s.lastError := rfl
@[simp] theorem markStart_ackLatch : (markStart s).ackLatch = s.ackLatch := rfl
@[simp] theorem markStart_found : (markStart s).found = s.found := rfl
@[simp] theorem markStart_discoveredOk : (markStart s).discoveredOk = s.discoveredOk := rfl
@[simp] theorem markStart_xferActive : (markStart s).xferActive = s.xferActive := rfl
@[simp] theorem markStart_faults : (markStart s).faults = { s.faults with startDuringTransfer := true } := rfl
@[simp] theorem markStart_refused : (markStart s).refused = s.refused := rfl
@[simp] theorem markStart_debugOut : (markStart s).debugOut = s.debugOut := rfl
@[simp] theorem markStart_disc : (markStart s).disc = s.disc := rfl
@[simp] theorem markStart_busIdle : (markStart s).busIdle = s.busIdle := rfl
@[simp] theorem markStart_program : (markStart s).program = s.program := rfl
@[simp] theorem markStart_returns : (markStart s).returns = s.returns := rfl
@[simp] theorem markStart_sched : (markStart s).sched = s.sched := rfl
@[simp] theorem markStart_tick : (markStart s).tick = s.tick := rfl

/-! `issueStop` -/

@[simp] theorem issueStop_ctrl : (issueStop s).ctrl = ctrlAfterWrite s.ctrl (ctl s.ctrl false true s.cfg.ackEnable) := rfl
@[simp] theorem issueStop_status : (issueStop s).status = s.status := rfl
@[simp] theorem issueStop_data : (issueStop s).data = s.data := rfl
@[simp] theorem issueStop_addr : (issueStop s).addr = s.addr := rfl
@[simp] theorem issueStop_bitrate : (issueStop s).bitrate = s.bitrate := rfl
@[simp] theorem issueStop_amr : (issueStop s).amr = s.amr := rfl
@[simp] theorem issueStop_gie : (issueStop s).gie = s.gie := rfl
@[simp] theorem issueStop_cfg : (issueStop s).cfg = s.cfg := rfl
@[simp] theorem issueStop_direction : (issueStop s).direction = s.direction := rfl
@[simp] theorem issueStop_target : (issueStop s).target = s.target := rfl
@[simp] theorem issueStop_tx : (issueStop s).tx = s.tx := rfl
@[simp] theorem issueStop_rx : (issueStop s).rx = s.rx := rfl
@[simp] theorem issueStop_lastError : (issueStop s).lastError = s.lastError := rfl
@[simp] theorem issueStop_ackLatch : (issueStop s).ackLatch = s.ackLatch := rfl
@[simp] theorem issueStop_found : (issueStop s).found = s.found := rfl
@[simp] theorem issueStop_discoveredOk : (issueStop s).discoveredOk = s.discoveredOk := rfl
@[simp] theorem issueStop_xferActive : (issueStop s).xferActive = false := rfl
@[simp] theorem issueStop_faults : (issueStop s).faults = s.faults := rfl
@[simp] theorem issueStop_refused : (issueStop s).refused = s.refused := rfl
@[simp] theorem issueStop_debugOut : (issueStop s).debugOut = s.debugOut := rfl
@[simp] theorem issueStop_disc : (issueStop s).disc = s.disc := rfl
@[simp] theorem issueStop_busIdle : (issueStop s).busIdle = s.busIdle := rfl
@[simp] theorem issueStop_program : (issueStop s).program = s.program := rfl
@[simp] theorem issueStop_returns : (issueStop s).returns = s.returns := rfl
@[simp] theorem issueStop_sched : (issueStop s).sched = s.sched := rfl
@[simp] theorem issueStop_tick : (issueStop s).tick = s.tick := rfl

/-! `endCall` -/

@[simp] theorem endCall_ctrl (e : CallEnd) : (endCall e).ctrl = e.2.ctrl := rfl
@[simp] theorem endCall_status (e : CallEnd) : (endCall e).status = e.2.status := rfl
@[simp] theorem endCall_data (e : CallEnd) : (endCall e).data = e.2.data := rfl
@[simp] theorem endCall_addr (e : CallEnd) : (endCall e).addr = e.2.addr := rfl
@[simp] theorem endCall_bitrate (e : CallEnd) : (endCall e).bitrate = e.2.bitrate := rfl
@[simp] theorem endCall_amr (e : CallEnd) : (endCall e).amr = e.2.amr := rfl
@[simp] theorem endCall_gie (e : CallEnd) : (endCall e).gie = e.2.gie := rfl
@[simp] theorem endCall_cfg (e : CallEnd) : (endCall e).cfg = e.2.cfg := rfl
@[simp] theorem endCall_direction (e : CallEnd) : (endCall e).direction = e.2.direction := rfl
@[simp] theorem endCall_target (e : CallEnd) : (endCall e).target = e.2.target := rfl
@[simp] theorem endCall_tx (e : CallEnd) : (endCall e).tx = e.2.tx := rfl
@[simp] theorem endCall_rx (e : CallEnd) : (endCall e).rx = e.2.rx := rfl
@[simp] theorem endCall_lastError (e : CallEnd) : (endCall e).lastError = e.2.lastError := rfl
@[simp] theorem endCall_ackLatch (e : CallEnd) : (endCall e).ackLatch = e.2.ackLatch := rfl
@[simp] theorem endCall_found (e : CallEnd) : (endCall e).found = e.2.found := rfl
@[simp] theorem endCall_discoveredOk (e : CallEnd) : (endCall e).discoveredOk = e.2.discoveredOk := rfl
@[simp] theorem endCall_xferActive (e : CallEnd) : (endCall e).xferActive = e.2.xferActive := rfl
@[simp] theorem endCall_faults (e : CallEnd) : (endCall e).faults = e.2.faults := rfl
@[simp] theorem endCall_refused (e : CallEnd) : (endCall e).refused = e.2.refused := rfl
@[simp] theorem endCall_debugOut (e : CallEnd) : (endCall e).debugOut = e.2.debugOut := rfl
@[simp] theorem endCall_disc (e : CallEnd) : (endCall e).disc = e.2.disc := rfl
@[simp] theorem endCall_busIdle (e : CallEnd) : (endCall e).busIdle = e.2.busIdle := rfl
@[simp] theorem endCall_program (e : CallEnd) : (endCall e).program = e.2.program := rfl
@[simp] theorem endCall_returns (e : CallEnd) : (endCall e).returns = e.2.returns ++ [e.1] := rfl
@[simp] theorem endCall_sched (e : CallEnd) : (endCall e).sched = e.2.sched := rfl
@[simp] theorem endCall_tick (e : CallEnd) : (endCall e).tick = e.2.tick := rfl

/-! Writing a register of the interface, register by register (R19 to R27). -/

@[simp] theorem writeReg_ctrl (v : Byte) : s.writeReg .ctrl v = s.writeCtrl v := rfl
@[simp] theorem writeReg_data (v : Byte) : s.writeReg .data v = s.writeData v := rfl
@[simp] theorem writeReg_status (v : Byte) :
    s.writeReg .status v = { s with status := statusAfterWrite s.status v } := rfl
@[simp] theorem writeReg_addr (v : Byte) : s.writeReg .addr v = { s with addr := v } := rfl
@[simp] theorem writeReg_bitrate (v : Byte) : s.writeReg .bitrate v = { s with bitrate := v } := rfl
@[simp] theorem writeReg_amr (v : Byte) : s.writeReg .amr v = { s with amr := v &&& 0xFE#8 } := rfl

end Sys2Proof.Machine
end

