-- ==== Sys2Proof/Laws/Fairness.lean ====
section
/-! SUPPORT. What the fairness of R147 gives a run: a deliverable event is delivered unless the foreground withdraws it. -/

namespace Sys2Proof.Machine

/-- Taking a move from the schedule changes nothing that delivery depends on. -/
theorem deliverable_nextMove (s : State) : deliverable (nextMove s).2 = deliverable s := by
  unfold nextMove
  split <;> rfl

/-- PERIPH has no event step while an event is pending (R20, R144). -/
theorem periphEvent_pending {m : PeriphModel} {f : StatusField} {d : Byte} {s : State} (h : ctrlInt s.ctrl = true) :
    periphEvent m f d s = s := by
  simp [periphEvent, periphEnabled, h]

/-- The stop step leaves a deliverable event deliverable. -/
theorem deliverable_periphStop (s : State) : deliverable (periphStop s) = deliverable s := by
  unfold periphStop
  split
  · simp [deliverable]
  · rfl

/-- From a state with a deliverable event a step delivers it, or keeps it deliverable, or is the foreground's: only the
foreground withdraws a deliverable event (R147, R162). -/
theorem step_of_deliverable {s t : State} (h : step s = .next t) (hd : deliverable s = true) :
    ((nextMove s).1 = .handler ∧ exec (decodeStatus s.status) (nextMove s).2 = .next t) ∨
      ((nextMove s).1 ≠ .handler ∧ ((nextMove s).1 = .fg ∨ deliverable t = true)) := by
  have hs := deliverable_nextMove s
  have hst : (nextMove s).2.status = s.status := by unfold nextMove; split <;> rfl
  rw [hd] at hs
  unfold step stepMove at h
  generalize nextMove s = p at h hs hst
  obtain ⟨m, u⟩ := p
  cases m with
  | fg => exact .inr ⟨nofun, .inl rfl⟩
  | handler =>
    refine .inl ⟨rfl, ?_⟩
    rw [← hst]
    simpa only [runMove, handlerStep, hs, if_true] using h
  | event f d =>
    have hi : ctrlInt u.ctrl = true := by simp [deliverable] at hs; exact hs.1.1
    rw [runMove, periphEvent_pending hi] at h
    cases h
    exact .inr ⟨nofun, .inr hs⟩
  | stopDone =>
    cases h
    exact .inr ⟨nofun, .inr ((deliverable_periphStop u).trans hs)⟩

/-- In a run in which HANDLER is weakly fair, a deliverable event is delivered, after a time in which it stayed
deliverable, unless a foreground step withdraws it first (R147). -/
theorem HandlerFair.delivers {r : Nat → State} (hf : HandlerFair r) (hr : IsRun r) {n : Nat}
    (hd : deliverable (r n) = true) :
    ∃ k, n ≤ k ∧ (∀ j, n ≤ j → j ≤ k → deliverable (r j) = true) ∧
      (((nextMove (r k)).1 = .handler ∧ exec (decodeStatus (r k).status) (nextMove (r k)).2 = .next (r (k + 1))) ∨
        ((nextMove (r k)).1 = .fg ∧ deliverable (r (k + 1)) = false)) := by
  obtain ⟨k, hk, hor⟩ := hf n hd
  obtain ⟨m, rfl⟩ := Nat.exists_eq_add_of_le hk
  clear hk
  induction m generalizing n with
  | zero =>
    rcases hor with h | h
    · simp [hd] at h
    · rcases step_of_deliverable (hr n) hd with hx | ⟨hne, -⟩
      · exact ⟨n, le_rfl, fun j h1 h2 => le_antisymm h2 h1 ▸ hd, .inl hx⟩
      · exact absurd h hne
  | succ m ih =>
    rcases step_of_deliverable (hr n) hd with hx | ⟨-, hx⟩
    · exact ⟨n, le_rfl, fun j h1 h2 => le_antisymm h2 h1 ▸ hd, .inl hx⟩
    · cases hd' : deliverable (r (n + 1))
      · exact ⟨n, le_rfl, fun j h1 h2 => le_antisymm h2 h1 ▸ hd, .inr ⟨by simpa [hd'] using hx, hd'⟩⟩
      · obtain ⟨k, hk, hall, hend⟩ := ih hd' (by rwa [Nat.add_assoc, Nat.add_comm 1])
        refine ⟨k, by omega, fun j h1 h2 => ?_, hend⟩
        rcases Nat.eq_or_lt_of_le h1 with rfl | h1
        · exact hd
        · exact hall j h1 h2

/-- The state a witness starts in: an event pending in a block that is not enabled, HANDLER's move next. -/
def fairStart : State :=
  { State.reset with ctrl := 0x81#8, gie := true, sched := [.handler] }

/-- A run of `fairStart`: HANDLER takes the event, and then no agent has a step that changes anything but the schedule. -/
def fairRun : Nat → State
  | 0 => fairStart
  | n + 1 => { State.reset with ctrl := 0x01#8, gie := true, tick := n }

/-- A run in which HANDLER is fair and an event is deliverable: the premises of `HandlerFair.delivers` can be met. -/
theorem fairRun_fair : IsRun fairRun ∧ HandlerFair fairRun ∧ deliverable (fairRun 0) = true := by
  have int : ctrlInt 0x01#8 = false := by decide
  have en : ctrlEn 0x01#8 = false := by decide
  refine ⟨fun n => ?_, fun n _ => ?_, by decide⟩
  · cases n with
    | zero => rfl
    | succ n =>
      show runMove (Config.freeMove n) (fairRun (n + 2)) = _
      cases Config.freeMove n with
      | fg => rfl
      | handler => simp [runMove, handlerStep, deliverable, fairRun, int]
      | event f d => simp [runMove, periphEvent, periphEnabled, fairRun, en]
      | stopDone => simp [runMove, periphStop, fairRun, en]
  · cases n with
    | zero => exact ⟨0, le_rfl, .inr rfl⟩
    | succ n => exact ⟨n + 1, le_rfl, .inl (by simp [deliverable, fairRun, int])⟩

end Sys2Proof.Machine
end

