-- ==== Sys2Proof/Laws/Memory.lean ====
section
/-! SUPPORT. The arenas: a read after a write, and that every arena operation keeps the canonical form. -/

namespace Sys2Proof.Machine

/-- A slot just written is listed with the byte written, and every other slot as before. -/
theorem Memory.lookup_write (m : Memory) (i j : Nat) (b : Byte) :
    (m.write i b).lookup j = if i = j then some b else m.lookup j := by
  induction m with
  | nil => rfl
  | cons x rest ih =>
    obtain ⟨k, c⟩ := x
    unfold Memory.write
    split
    · simp [Memory.lookup]
    · split
      · next hk => subst hk; simp only [Memory.lookup]; split <;> rfl
      · simp only [Memory.lookup, ih]
        split
        · next hk => subst hk; simp_all [eq_comm]
        · rfl

/-- A read after a write. -/
theorem Memory.read_write (p : Nat → Byte) (m : Memory) (i j : Nat) (b : Byte) :
    Memory.read p (m.write i b) j = if i = j then b else Memory.read p m j := by
  unfold Memory.read
  rw [Memory.lookup_write]
  split <;> rfl

/-- A read after the writes of a list. -/
theorem Memory.read_writeList (p : Nat → Byte) (bs : List Byte) (m : Memory) (i j : Nat) :
    Memory.read p (m.writeList i bs) j =
      if h : i ≤ j ∧ j - i < bs.length then bs[j - i]'h.2 else Memory.read p m j := by
  induction bs generalizing m i with
  | nil => simp [Memory.writeList]
  | cons b bs ih =>
    simp only [Memory.writeList, ih, Memory.read_write, List.length_cons]
    by_cases hij : i = j
    · subst hij; simp
    · by_cases hlt : i < j
      · have h1 : j - i = (j - (i + 1)) + 1 := by omega
        by_cases h2 : j - (i + 1) < bs.length
        · have h3 : i + 1 ≤ j ∧ j - (i + 1) < bs.length := ⟨hlt, h2⟩
          have h4 : i ≤ j ∧ j - i < bs.length + 1 := ⟨by omega, by omega⟩
          simp only [h3, h4, and_self, ↓reduceDIte]
          simp [h1]
        · have h3 : ¬(i + 1 ≤ j ∧ j - (i + 1) < bs.length) := fun h => h2 h.2
          have h4 : ¬(i ≤ j ∧ j - i < bs.length + 1) := fun h => h2 (by omega)
          rw [dif_neg h3, dif_neg h4, if_neg hij]
      · have h3 : ¬(i + 1 ≤ j ∧ j - (i + 1) < bs.length) := fun h => hlt (by omega)
        have h4 : ¬(i ≤ j ∧ j - i < bs.length + 1) := fun h => hlt (by omega)
        rw [dif_neg h3, dif_neg h4, if_neg hij]

/-- The second of two writes of one byte to one slot changes nothing. -/
theorem Memory.write_write (m : Memory) (i : Nat) (b : Byte) : (m.write i b).write i b = m.write i b := by
  induction m with
  | nil => simp [Memory.write]
  | cons x rest ih =>
    obtain ⟨k, c⟩ := x
    by_cases h1 : i < k
    · simp [Memory.write, h1]
    · by_cases h2 : k = i
      · subst h2; simp [Memory.write]
      · simp [Memory.write, h1, h2, ih]

/-- The slots listed after a write: the one written and those listed before. -/
theorem Memory.mem_write {m : Memory} {i : Nat} {b : Byte} {x : Host.Cell} (h : x ∈ m.write i b) :
    x = (i, b) ∨ x ∈ m := by
  induction m with
  | nil => exact .inl (by simpa [Memory.write] using h)
  | cons y rest ih =>
    obtain ⟨k, c⟩ := y
    unfold Memory.write at h
    split at h
    · exact (List.mem_cons.1 h)
    · split at h
      · rcases List.mem_cons.1 h with h | h
        · exact .inl h
        · exact .inr (List.mem_cons_of_mem _ h)
      · rcases List.mem_cons.1 h with h | h
        · exact .inr (h ▸ List.mem_cons_self)
        · exact (ih h).imp id (List.mem_cons_of_mem _)

/-- A write inside the arena keeps the canonical form. -/
theorem Memory.wf_write {size : Nat} {m : Memory} (h : Memory.wf size m) {i : Nat} (hi : i < size) (b : Byte) :
    Memory.wf size (m.write i b) := by
  refine ⟨?_, fun x hx => ?_⟩
  · have hs := h.1
    clear h
    induction m with
    | nil => simp [Memory.write]
    | cons y rest ih =>
      obtain ⟨k, c⟩ := y
      obtain ⟨hy, hrest⟩ := List.pairwise_cons.1 hs
      unfold Memory.write
      split
      · next hik =>
        refine List.pairwise_cons.2 ⟨fun x hx => ?_, hs⟩
        rcases List.mem_cons.1 hx with rfl | hx
        · exact hik
        · exact lt_trans hik (hy x hx)
      · split
        · next hik => subst hik; exact List.pairwise_cons.2 ⟨hy, hrest⟩
        · next h1 h2 =>
          refine List.pairwise_cons.2 ⟨fun x hx => ?_, ih hrest⟩
          rcases Memory.mem_write hx with rfl | hx
          · show k < i
            omega
          · exact hy x hx
  · rcases Memory.mem_write hx with rfl | hx
    · exact hi
    · exact h.2 x hx

/-- The writes of a list inside the arena keep the canonical form. -/
theorem Memory.wf_writeList {size : Nat} (bs : List Byte) {m : Memory} {i : Nat} (h : Memory.wf size m)
    (hi : i + bs.length ≤ size) : Memory.wf size (m.writeList i bs) := by
  induction bs generalizing m i with
  | nil => exact h
  | cons b bs ih =>
    simp only [List.length_cons] at hi
    exact ih (Memory.wf_write h (by omega) b) (by omega)

/-- The arenas after power-on are in canonical form. -/
theorem Memory.wf_reset (size : Nat) : Memory.wf size State.reset.tx.bytes ∧ Memory.wf size State.reset.rx.slots := by
  simp [State.reset, Memory.wf]

end Sys2Proof.Machine
end

