-- ==== Sys2Proof/Laws/Ops.lean ====
section
/-! SUPPORT. For each shared operation, what it does, said once; a proof cites these and unfolds no operation. -/

namespace Sys2Proof.Machine

variable (s : State)

/-! ### Writing `DATA` and retiring the event -/

/-- A write of `DATA` while an event is pending (R19, R24). -/
theorem writeData_of_pending (v : Byte) (h : ctrlInt s.ctrl = true) :
    s.writeData v = { s with data := v, ctrl := ctrlClearWc s.ctrl } := by
  simp [State.writeData, h]

/-- A write of `DATA` while no event is pending is lost (R19, R24). -/
theorem writeData_of_idle (v : Byte) (h : ctrlInt s.ctrl = false) :
    s.writeData v = { s with ctrl := ctrlSetWc s.ctrl } := by
  simp [State.writeData, h]

/-- `finish(ctl(sta, sto, ea))` changes `CTRL` and nothing else. -/
theorem finishCtl_eq (sta sto ea : Bool) :
    finishCtl sta sto ea s = { s with ctrl := (s.ctrl &&& 0x0F#8) ||| bitAt ea 6 ||| bitAt sta 5 ||| bitAt sto 4 } := by
  rw [← ctrlAfterWrite_ctl]; rfl

/-- After a `DATA` write in the same transition, `finish(ctl(sta, sto, ea))` leaves `WC` clear. -/
theorem finishCtl_writeData (t : State) (v : Byte) (sta sto ea : Bool) (h : ctrlInt t.ctrl = true) :
    finishCtl sta sto ea (t.writeData v) =
      { t with data := v, ctrl := (t.ctrl &&& 0x07#8) ||| bitAt ea 6 ||| bitAt sta 5 ||| bitAt sto 4 } := by
  rw [writeData_of_pending t v h, ← ctrlAfterWrite_ctl_clearWc]; rfl

/-- `issue_stop()` ends the transfer and requests the stop (R95). -/
theorem issueStop_eq :
    issueStop s = { s with xferActive := false, ctrl := (s.ctrl &&& 0x0F#8) ||| bitAt s.cfg.ackEnable 6 ||| 0x10#8 } := by
  have h : bitAt false 5 = 0x00#8 ∧ bitAt true 4 = 0x10#8 := by decide
  rw [issueStop, finishCtl_eq, h.1, h.2, BitVec.or_zero]; rfl

/-! ### Buffers -/

/-- `tx_has_next()` (R57). -/
theorem txHasNext_iff : txHasNext s = true ↔ s.tx.live = true ∧ s.tx.cursor < s.tx.len := by
  simp [txHasNext]

/-- A byte appended while two slots or more remain is stored (R62). -/
theorem rxStore_keep {rx : RxBuffer} (b : Byte) (h : rx.cursor + 1 < rx.capacity) :
    rxStore b rx = { rx with slots := rx.slots.write rx.cursor b, cursor := rx.cursor + 1 } := by
  have h1 : rx.cursor < rx.capacity := by omega
  have h2 : ¬rx.capacity ≤ rx.cursor + 1 := by omega
  simp [rxStore, rxFull, rxPut, h1, h2]

/-- A byte that fills the buffer is stored and followed by the sentinel (R62). -/
theorem rxStore_fill {rx : RxBuffer} (b : Byte) (h : rx.cursor + 1 = rx.capacity) :
    rxStore b rx =
      { rx with slots := (rx.slots.write rx.cursor b).write (rx.cursor + 1) Config.sentinel, cursor := rx.cursor + 1 } := by
  have h1 : rx.cursor < rx.capacity := by omega
  have h2 : rx.capacity ≤ rx.cursor + 1 := by omega
  simp [rxStore, rxFull, rxPut, h1, h2]

/-- A byte appended at capacity is dropped (R62). -/
theorem rxStore_drop {rx : RxBuffer} (b : Byte) (h : rx.capacity ≤ rx.cursor) : rxStore b rx = rx := by
  have h1 : ¬rx.cursor < rx.capacity := by omega
  simp [rxStore, h1]

/-! ### Shared sub-transitions -/

/-- `mt_data()` with bytes remaining (R96). -/
theorem mtData_of_next (h : txHasNext s = true) :
    mtData s = finishCtl false false s.cfg.ackEnable (loadNext s) := by
  simp [mtData, h]

/-- `mt_data()` with none remaining (R96). -/
theorem mtData_of_end (h : txHasNext s = false) : mtData s = issueStop (txRelease s) := by
  simp [mtData, h]

/-- `st_data()` with bytes remaining (R110). -/
theorem stData_of_next (h : txHasNext s = true) : stData s = finishCtl false false true (loadNext s) := by
  simp [stData, h]

/-- `st_data()` with none remaining (R110). -/
theorem stData_of_end (h : txHasNext s = false) : stData s = finishCtl false false false s := by
  simp [stData, h]

/-- `mr_ack()` on a full buffer (R97). -/
theorem mrAck_of_full (h : s.rx.capacity ≤ s.rx.cursor) : mrAck s = finishCtl false false false (rxSentinel s) := by
  simp [mrAck, rxFull, h]

/-- `mr_ack()` while capacity remains (R97). -/
theorem mrAck_of_room (h : s.rx.cursor < s.rx.capacity) : mrAck s = finishCtl false false true s := by
  simp [mrAck, rxFull, Nat.not_le.2 h]

/-! ### Foreground operations -/

/-- What the bus checks of `apply` accept (R82). -/
theorem checkBus_accept {c : ConfigArg} {m : Mode} {d e : Int} {b : BusConfig} (h : checkBus c m d = .accept b e) :
    1 ≤ c.selfAddr ∧ c.selfAddr ≤ 127 ∧ 0 < c.speed ∧ c.speed ≤ 400000 ∧ (m ≠ .slave → 10 ≤ d ∧ d ≤ 255) ∧
      b = configOfArg c m ∧ e = d := by
  unfold checkBus at h
  split_ifs at h with h1 h2 h3 h4 h5
  cases h
  have h3' : m ≠ .slave → ¬d < Config.divMin := by simpa [bitRateTooLow] using h3
  have h5' : m ≠ .slave → ¬255 < d := by simpa [divisorOverflows] using h5
  simp only [Config.divMin, Config.speedMax, not_lt] at h3' h4 h5'
  exact ⟨by omega, by omega, by omega, h4, fun hs => ⟨h3' hs, h5' hs⟩, rfl, rfl⟩

/-- What a configuration that `apply` accepts is, and what is known of it (R82). -/
theorem checkApply_accept {f : Nat} {c : ConfigArg} {b : BusConfig} {d : Int} (h : checkApply f c = .accept b d) :
    c.prescaler ≤ 3 ∧ 1 ≤ c.selfAddr ∧ c.selfAddr ≤ 127 ∧ 0 < c.speed ∧ c.speed ≤ 400000 ∧
      d = divisor f c.speed c.prescaler ∧ (b.mode ≠ .slave → 10 ≤ d ∧ d ≤ 255) ∧
      ∃ m, modeOfNat c.mode = some m ∧ b = configOfArg c m := by
  unfold checkApply at h
  split at h
  · cases h
  · next hp =>
    split at h
    · cases h
    · next m hm =>
      obtain ⟨h1, h2, h3, h4, h5, rfl, rfl⟩ := checkBus_accept h
      exact ⟨by omega, h1, h2, h3, h4, rfl, h5, m, hm, rfl⟩

/-- The three ways `apply` ends (R82): refused, rejected or activated. -/
theorem applyOp_cases (f : Nat) (c : ConfigArg) :
    (∃ n, checkApply f c = .refuse n ∧ applyOp f c s = (.refused n, { s with refused := true })) ∨
    (∃ r, checkApply f c = .reject r ∧ applyOp f c s = (.returned r, s)) ∨
    ∃ b d, checkApply f c = .accept b d ∧ applyOp f c s = (.returned .ok, applyEffects b d s) := by
  unfold applyOp
  cases h : checkApply f c with
  | refuse n => exact .inl ⟨n, rfl, rfl⟩
  | reject r => exact .inr (.inl ⟨r, rfl, rfl⟩)
  | accept b d => exact .inr (.inr ⟨b, d, rfl, rfl⟩)

/-- `set_target_address` changes at most the target (R85). -/
theorem setTargetOp_state (a : Nat) : ∃ t, (setTargetOp a s).2 = { s with target := t } := by
  unfold setTargetOp
  split_ifs
  · exact ⟨s.target, rfl⟩
  · exact ⟨s.target, rfl⟩
  · exact ⟨s.target, rfl⟩
  · exact ⟨_, rfl⟩

/-- `start` changes at most `CTRL`, the transfer flag and its fault mark (R88). -/
theorem startOp_state : ∃ c x f, (startOp s).2 = { s with ctrl := c, xferActive := x, faults := f } := by
  unfold startOp
  split_ifs
  · exact ⟨s.ctrl, s.xferActive, s.faults, rfl⟩
  · exact ⟨_, _, _, rfl⟩
  · exact ⟨_, _, _, rfl⟩
  · exact ⟨s.ctrl, s.xferActive, s.faults, rfl⟩

end Sys2Proof.Machine
end

