-- ==== Sys2Proof/Laws/PerInstr.lean ====
section
/-! SUPPORT. Per instruction: the length of its encoding is the one byte of a status code (R65), or one selector byte and
the argument bytes that R75 gives the call. -/

namespace Sys2Proof.Laws.EncodedLength

/-- How many argument bytes R75 gives an instruction; a status code has none. -/
def argumentBytes : Instr → Nat
  | .apply _ => 8
  | .setTargetAddress _ => 1
  | .fillTransmit bs => 1 + bs.length
  | .setReceiveCapacity _ => 1
  | .status00 => 0
  | .status08 => 0
  | .status10 => 0
  | .status18 => 0
  | .status20 => 0
  | .status28 => 0
  | .status30 => 0
  | .status38 => 0
  | .status40 => 0
  | .status48 => 0
  | .status50 => 0
  | .status58 => 0
  | .status60 => 0
  | .status68 => 0
  | .status70 => 0
  | .status78 => 0
  | .status80 => 0
  | .status88 => 0
  | .status90 => 0
  | .status98 => 0
  | .statusA0 => 0
  | .statusA8 => 0
  | .statusB0 => 0
  | .statusB8 => 0
  | .statusC0 => 0
  | .statusC8 => 0
  | .statusD0 => 0
  | .statusD8 => 0
  | .statusE0 => 0
  | .statusE8 => 0
  | .statusF0 => 0
  | .statusF8 => 0
  | .defaultConfig => 0
  | .start => 0
  | .stop => 0
  | .getReceived => 0
  | .flushReceive => 0
  | .flushTransmit => 0
  | .discover => 0
  | .report => 0

/-- The encoding is one byte and the argument bytes. -/
def Statement (i : Instr) : Prop :=
  (encode i).length = 1 + argumentBytes i

theorem status00 : Statement .status00 := rfl
theorem status08 : Statement .status08 := rfl
theorem status10 : Statement .status10 := rfl
theorem status18 : Statement .status18 := rfl
theorem status20 : Statement .status20 := rfl
theorem status28 : Statement .status28 := rfl
theorem status30 : Statement .status30 := rfl
theorem status38 : Statement .status38 := rfl
theorem status40 : Statement .status40 := rfl
theorem status48 : Statement .status48 := rfl
theorem status50 : Statement .status50 := rfl
theorem status58 : Statement .status58 := rfl
theorem status60 : Statement .status60 := rfl
theorem status68 : Statement .status68 := rfl
theorem status70 : Statement .status70 := rfl
theorem status78 : Statement .status78 := rfl
theorem status80 : Statement .status80 := rfl
theorem status88 : Statement .status88 := rfl
theorem status90 : Statement .status90 := rfl
theorem status98 : Statement .status98 := rfl
theorem statusA0 : Statement .statusA0 := rfl
theorem statusA8 : Statement .statusA8 := rfl
theorem statusB0 : Statement .statusB0 := rfl
theorem statusB8 : Statement .statusB8 := rfl
theorem statusC0 : Statement .statusC0 := rfl
theorem statusC8 : Statement .statusC8 := rfl
theorem statusD0 : Statement .statusD0 := rfl
theorem statusD8 : Statement .statusD8 := rfl
theorem statusE0 : Statement .statusE0 := rfl
theorem statusE8 : Statement .statusE8 := rfl
theorem statusF0 : Statement .statusF0 := rfl
theorem statusF8 : Statement .statusF8 := rfl
theorem apply (c : ConfigArg) : Statement (.apply c) := rfl
theorem setTargetAddress (addr : Nat) : Statement (.setTargetAddress addr) := rfl
theorem fillTransmit (bs : List Byte) : Statement (.fillTransmit bs) := by
  simp only [Statement, encode, argumentBytes, List.length_cons]
  omega
theorem setReceiveCapacity (n : Nat) : Statement (.setReceiveCapacity n) := rfl
theorem defaultConfig : Statement .defaultConfig := rfl
theorem start : Statement .start := rfl
theorem stop : Statement .stop := rfl
theorem getReceived : Statement .getReceived := rfl
theorem flushReceive : Statement .flushReceive := rfl
theorem flushTransmit : Statement .flushTransmit := rfl
theorem discover : Statement .discover := rfl
theorem report : Statement .report := rfl

end Sys2Proof.Laws.EncodedLength
end

