-- ==== Sys2Proof/Tests/Slice0.lean ====
section
/-! SUPPORT. The model's own tests. Expected values are those of spec/95_test_vectors.md (V, E and P numbers) or are
worked out by hand from the rule named. The second half holds a named witness for the hypotheses of every statement. -/

namespace Sys2Proof.Tests

open Sys2Proof Sys2Proof.Machine

/-- An outcome is a next state of which `p` holds. -/
def nextHas (o : Host.Outcome State Fault Refusal) (p : State → Bool) : Bool :=
  match o with
  | .next t => p t
  | .fault _ => false
  | .refused _ => false

/-- The configuration `MT` of the test vectors, as an argument. -/
def argMT : ConfigArg where
  activate := true
  irqEnable := true
  ackEnable := false
  gcEnable := false
  selfAddr := 0x70
  mode := 1
  prescaler := 0
  speed := 100000

/-- The configuration `SLG` of the test vectors, as an argument. -/
def argSLG : ConfigArg where
  activate := true
  irqEnable := true
  ackEnable := true
  gcEnable := true
  selfAddr := 0x42
  mode := 0
  prescaler := 0
  speed := 100000

/-- `SL`, the slave configuration of the test vectors. -/
def cfgSL : BusConfig where
  activate := true
  irqEnable := true
  ackEnable := true
  gcEnable := false
  selfAddr := 0x42#7
  speed := 100000
  mode := .slave
  prescaler := 0#2

/-- A master transmitter at 0x20 with "ABC" to send, its cursor at `c`, and an event pending. -/
def master (c : Nat) : State := {
  State.reset with
  cfg := defaultProfile
  ctrl := 0x85#8
  gie := true
  addr := 0xE0#8
  bitrate := 0x48#8
  direction := .transmit
  target := 0x20#7
  xferActive := true
  tx := { live := true, len := 3, cursor := c, bytes := [(0, 0x41#8), (1, 0x42#8), (2, 0x43#8)] } }

/-- `master` with no live transmit buffer. -/
def probing : State := { master 0 with tx := { live := false, len := 0, cursor := 0, bytes := [] } }

/-- A receiver of capacity 4 with a byte in `DATA` and an event pending; `live` and `c` say what the buffer holds. -/
def receiver (live : Bool) (c : Nat) (b : Byte) : State := {
  master 0 with
  direction := .receive
  data := b
  rx := {
    live := live, capacity := 4, cursor := c
    slots := [(0, 0x11#8), (1, 0x22#8), (2, 0x33#8), (3, 0x44#8), (4, 0x00#8)] } }

/-- A slave with "XY" to send and an event pending. -/
def slave (c : Nat) : State := {
  State.reset with
  cfg := cfgSL
  ctrl := 0xC5#8
  gie := true
  addr := 0x84#8
  data := 0x33#8
  xferActive := true
  tx := { live := true, len := 2, cursor := c, bytes := [(0, 0x58#8), (1, 0x59#8)] } }

/-! ### Well-formedness: an ill-formed term for each check -/

theorem test_wf_self : Instr.wellFormed (.apply { argMT with selfAddr := 256 }) = false := by decide
theorem test_wf_mode : Instr.wellFormed (.apply { argMT with mode := 256 }) = false := by decide
theorem test_wf_prescaler : Instr.wellFormed (.apply { argMT with prescaler := 256 }) = false := by decide
theorem test_wf_speed : Instr.wellFormed (.apply { argMT with speed := 4294967296 }) = false := by decide
theorem test_wf_target : Instr.wellFormed (.setTargetAddress 256) = false := by decide
theorem test_wf_fill : Instr.wellFormed (.fillTransmit (List.replicate 256 0x00#8)) = false := by decide +kernel
theorem test_wf_capacity : Instr.wellFormed (.setReceiveCapacity 256) = false := by decide
theorem test_wf_largest : Instr.wellFormed (.apply { argMT with
    selfAddr := 255, mode := 255, prescaler := 255, speed := 4294967295 }) = true := by decide

/-! ### Decoding: words written out from R72 and R75 -/

theorem test_decode_master :
    [0x00#8, 0x08#8, 0x10#8, 0x18#8, 0x20#8, 0x28#8, 0x30#8, 0x38#8, 0x40#8, 0x48#8, 0x50#8, 0x58#8].map decodeStatus =
      [.status00, .status08, .status10, .status18, .status20, .status28, .status30, .status38, .status40, .status48,
        .status50, .status58] := by decide

theorem test_decode_slave :
    [0x60#8, 0x68#8, 0x70#8, 0x78#8, 0x80#8, 0x88#8, 0x90#8, 0x98#8, 0xA0#8, 0xA8#8, 0xB0#8, 0xB8#8, 0xC0#8,
        0xC8#8].map decodeStatus =
      [.status60, .status68, .status70, .status78, .status80, .status88, .status90, .status98, .statusA0, .statusA8,
        .statusB0, .statusB8, .statusC0, .statusC8] := by decide

theorem test_decode_unmapped :
    [0xD0#8, 0xD8#8, 0xE0#8, 0xE8#8, 0xF0#8, 0xF8#8].map decodeStatus =
      [.statusD0, .statusD8, .statusE0, .statusE8, .statusF0, .statusF8] := by decide

/-- V84: the prescaler bits are masked off. -/
theorem test_decode_masked : decodeStatus 0x62#8 = .status60 := by decide

/-- `MT` as the test vectors write its call. -/
theorem test_decode_apply :
    decodeCall [0x01#8, 0x03#8, 0x70#8, 0x01#8, 0x00#8, 0x00#8, 0x01#8, 0x86#8, 0xA0#8] = .ok (.apply argMT, []) := by
  decide

/-- `SLG` as the test vectors write its call. -/
theorem test_decode_apply_slave :
    decodeCall [0x01#8, 0x0F#8, 0x42#8, 0x00#8, 0x00#8, 0x00#8, 0x01#8, 0x86#8, 0xA0#8] = .ok (.apply argSLG, []) := by
  decide

theorem test_decode_default : decodeCall [0x02#8] = .ok (.defaultConfig, []) := by decide
theorem test_decode_target : decodeCall [0x03#8, 0x20#8] = .ok (.setTargetAddress 0x20, []) := by decide
theorem test_decode_fill :
    decodeCall [0x04#8, 0x03#8, 0x41#8, 0x42#8, 0x43#8, 0x06#8] = .ok (.fillTransmit [0x41#8, 0x42#8, 0x43#8], [0x06#8]) := by
  decide
theorem test_decode_capacity : decodeCall [0x05#8, 0x02#8] = .ok (.setReceiveCapacity 2, []) := by decide
theorem test_decode_start : decodeCall [0x06#8] = .ok (.start, []) := by decide
theorem test_decode_stop : decodeCall [0x07#8] = .ok (.stop, []) := by decide
theorem test_decode_get : decodeCall [0x08#8] = .ok (.getReceived, []) := by decide
theorem test_decode_flush_receive : decodeCall [0x09#8] = .ok (.flushReceive, []) := by decide
theorem test_decode_flush_transmit : decodeCall [0x0A#8] = .ok (.flushTransmit, []) := by decide
theorem test_decode_discover : decodeCall [0x0B#8] = .ok (.discover, []) := by decide
theorem test_decode_report : decodeCall [0x0C#8] = .ok (.report, []) := by decide

/-- R73: a selector outside R75 is refused by name; a call cut short is not read. -/
theorem test_decode_errors :
    decodeCall [0x00#8] = .error .unknownSelector ∧ decodeCall [0x0D#8] = .error .unknownSelector ∧
      decodeCall [0x04#8, 0x02#8, 0x41#8] = .error .truncated := by decide

/-- The opcode table's numbering: `apply(MT)` as one word of nine bytes, the first byte lowest. -/
theorem test_table_word : decodeTableWord 72 0xA08601000001700301 = some (.apply argMT) := by decide

/-! ### Bus configuration -/

/-- V1. -/
theorem test_apply_master :
    (applyOp 16000000 argMT State.reset).1 = .returned .ok ∧
      (applyOp 16000000 argMT State.reset).2.cfg = defaultProfile ∧
      (applyOp 16000000 argMT State.reset).2.addr = 0xE0#8 ∧
      (applyOp 16000000 argMT State.reset).2.bitrate = 0x48#8 ∧
      (applyOp 16000000 argMT State.reset).2.ctrl = 0x05#8 := by decide +kernel

/-- V2. -/
theorem test_apply_slave :
    (applyOp 16000000 argSLG State.reset).2.direction = .unknown ∧
      (applyOp 16000000 argSLG State.reset).2.addr = 0x85#8 ∧
      (applyOp 16000000 argSLG State.reset).2.bitrate = 0x00#8 ∧
      (applyOp 16000000 argSLG State.reset).2.ctrl = 0x45#8 := by decide +kernel

/-- E2, V8, and a divisor with the largest prescaler. -/
theorem test_divisor :
    [divisor 16000000 100000 0, divisor 16000000 100000 1, divisor 16000000 100000 2, divisor 16000000 100000 3,
      divisor 16000000 400000 0, divisor 16000000 363636 0, divisor 16000000 10000 1, divisor 16000000 2000000 0] =
      [72, 18, 4, 1, 12, 14, 198, -4] := by decide +kernel

/-- E8. -/
theorem test_default : nextHas (exec .defaultConfig State.reset) (fun t =>
    t.returns = [.returned (.okConfig defaultProfile)] && t.cfg = BusConfig.reset) = true := by decide

/-- V17, V19, V20. -/
theorem test_target :
    (setTargetOp 127 (master 0)).2.target = 127#7 ∧ (setTargetOp 0 (master 0)).1 = .returned .ok ∧
      (setTargetOp 200 (slave 0)).1 = .returned .addressOutOfRange ∧
      (setTargetOp 0x42 (slave 0)).1 = .returned .selfAddressingNotAllowed ∧
      (setTargetOp 5 State.reset).1 = .returned .notPermittedInSlaveMode := by decide

/-! ### Transfer lifecycle -/

/-- V25. -/
theorem test_fill_outstanding :
    (fillOp 8 [0x5A#8] (master 1)).2.faults.fillDuringTransfer = true ∧
      (fillOp 8 [0x5A#8] (master 1)).2.tx.cursor = 0 ∧ (fillOp 8 [0x5A#8] (master 1)).2.tx.len = 1 ∧
      txNextByte (fillOp 8 [0x5A#8] (master 1)).2 = 0x5A#8 := by decide

/-- V26. -/
theorem test_capacity :
    (setCapacityOp 8 9 State.reset).1 = .refused .rxCapacity ∧ (setCapacityOp 8 9 State.reset).2.refused = true ∧
      (setCapacityOp 8 8 State.reset).2.rx.capacity = 8 ∧ (setCapacityOp 8 0 State.reset).1 = .returned .ok := by decide

/-- V30, V31: the start clears the pending event and marks the outstanding transfer. -/
theorem test_start : nextHas (exec .start (master 0)) (fun t =>
    t.ctrl = 0x25#8 && t.faults.startDuringTransfer && t.tx.cursor = 0 && t.returns = [.returned .ok]) = true := by decide

/-- V33. -/
theorem test_stop : nextHas (exec .stop (master 1)) (fun t =>
    t.ctrl = 0x15#8 && !t.tx.live && !t.xferActive) = true := by decide

/-- V37: data bytes equal to the sentinel do not matter. -/
theorem test_get_received : nextHas (exec .getReceived { receiver true 3 0x00#8 with
    rx := {
      live := true, capacity := 4, cursor := 3
      slots := [(0, 0x00#8), (1, 0x00#8), (2, 0x05#8), (3, 0x00#8)] } })
    (fun t => t.returns = [.returned (.okBytes [0x00#8, 0x00#8, 0x05#8, 0x00#8])]) = true := by decide

/-- V36. -/
theorem test_get_received_unfinished :
    nextHas (exec .getReceived (receiver true 2 0x00#8)) (fun t => t.returns = [.returned .noDataYet]) = true := by decide

/-- V40. -/
theorem test_flush_receive : nextHas (exec .flushReceive (receiver true 4 0x00#8)) (fun t =>
    !t.rx.live && t.rx.cursor = 0 && t.rx.capacity = 4 && t.returns = [.returned .ok]) = true := by decide

/-- V38. -/
theorem test_flush_transmit : nextHas (exec .flushTransmit State.reset) (fun t =>
    t.returns = [.returned .nothingToFlush]) = true := by decide

/-! ### Master engine -/

/-- V41. -/
theorem test_status08 : nextHas (exec .status08 (master 0)) (fun t =>
    t.data = 0x40#8 && t.ctrl = 0x05#8 && t.tx.cursor = 0) = true := by decide

/-- V43 and V44: `rw` is 1 for `receive` alone. -/
theorem test_status10 :
    nextHas (exec .status10 { master 0 with target := 0x05#7, direction := .unknown }) (fun t => t.data = 0x0A#8) = true ∧
      nextHas (exec .status10 { master 0 with target := 0x7F#7, direction := .receive }) (fun t => t.data = 0xFF#8) = true := by
  decide

/-- V45 and V46. -/
theorem test_status18 :
    nextHas (exec .status18 (master 0)) (fun t =>
      t.ackLatch = .positive && t.data = 0x41#8 && t.tx.cursor = 1 && t.ctrl = 0x05#8) = true ∧
    nextHas (exec .status18 probing) (fun t =>
      t.ackLatch = .positive && !t.xferActive && t.ctrl = 0x15#8) = true := by decide

/-- V60: the configured acknowledge enable is kept. -/
theorem test_status18_ack : nextHas (exec .status18 { master 0 with cfg := { defaultProfile with ackEnable := true } })
    (fun t => t.ctrl = 0x45#8) = true := by decide

/-- V47. -/
theorem test_status20 : nextHas (exec .status20 (master 0)) (fun t =>
    t.lastError = .addressNotAcknowledged && t.ackLatch = .negative && t.ctrl = 0x15#8 && t.tx.live) = true := by decide

/-- V48 and V49. -/
theorem test_status28 :
    nextHas (exec .status28 (master 2)) (fun t => t.data = 0x43#8 && t.tx.cursor = 3 && t.ctrl = 0x05#8) = true ∧
    nextHas (exec .status28 (master 3)) (fun t =>
      !t.tx.live && t.tx.len = 0 && t.tx.cursor = 0 && !t.xferActive && t.ctrl = 0x15#8) = true := by decide

/-- V50. -/
theorem test_status30 : nextHas (exec .status30 (master 2)) (fun t =>
    t.lastError = .dataNotAcknowledged && t.ackLatch = .unset && t.ctrl = 0x15#8 && t.tx.cursor = 2) = true := by decide

/-- V51. -/
theorem test_status38 : nextHas (exec .status38 (master 1)) (fun t =>
    t.lastError = .arbitrationLost && t.ctrl = 0x25#8 && t.xferActive && t.tx.cursor = 1) = true := by decide

/-- V52 and V53. -/
theorem test_status40 :
    nextHas (exec .status40 (receiver false 0 0x00#8)) (fun t => t.ctrl = 0x45#8 && !t.rx.live) = true ∧
    nextHas (exec .status40 { receiver false 0 0x00#8 with rx := { live := false, capacity := 0, cursor := 0, slots := [] } })
      (fun t => t.ctrl = 0x05#8 && t.rx.slots = []) = true := by decide

/-- V54. -/
theorem test_status48 : nextHas (exec .status48 (receiver false 0 0x00#8)) (fun t =>
    t.lastError = .addressNotAcknowledged && t.ackLatch = .unset && t.ctrl = 0x15#8) = true := by decide

/-- V55 and V56. -/
theorem test_status50 :
    nextHas (exec .status50 (receiver false 0 0x77#8)) (fun t =>
      t.rx.live && t.rx.cursor = 1 && rxSlot t 0 = 0x77#8 && t.ctrl = 0x45#8) = true ∧
    nextHas (exec .status50 (receiver true 3 0x77#8)) (fun t =>
      t.rx.cursor = 4 && rxSlot t 3 = 0x77#8 && rxSlot t 4 = 0x00#8 && t.ctrl = 0x05#8) = true := by decide

/-- V57: a byte at capacity is dropped, and the sentinel stands. -/
theorem test_status50_full : nextHas (exec .status50 (receiver true 4 0x55#8)) (fun t =>
    t.rx.cursor = 4 && rxSlot t 3 = 0x44#8 && rxSlot t 4 = 0x00#8 && t.ctrl = 0x05#8) = true := by decide

/-- V59. -/
theorem test_status58 : nextHas (exec .status58 (receiver true 4 0x55#8)) (fun t =>
    t.lastError = .dataNotAcknowledged && t.rx = (receiver true 4 0x55#8).rx && t.ctrl = 0x15#8) = true := by decide

/-! ### Slave engine -/

/-- V61, with `RX_MAX` = 8. -/
theorem test_status60 :
    (srAddressed 8 (slave 0)).direction = .receive ∧ (srAddressed 8 (slave 0)).rx.capacity = 8 ∧
      (srAddressed 8 (slave 0)).cfg.mode = .slave ∧ (srAddressed 8 (slave 0)).ctrl = 0x45#8 := by decide

/-- V62: the lost start is not requested again. -/
theorem test_status68 : nextHas (exec .status68 { master 1 with ctrl := 0xA5#8 }) (fun t =>
    t.direction = .receive && t.ctrl = 0x45#8 && t.lastError = .none && t.tx.cursor = 1 &&
      t.cfg.mode = .masterTransmit) = true := by decide

/-- V63 and V64. -/
theorem test_status70_78 :
    nextHas (exec .status70 (slave 0)) (fun t => t.direction = .receive && t.ctrl = 0x45#8) = true ∧
      nextHas (exec .status78 (master 1)) (fun t => t.direction = .receive && t.xferActive) = true := by decide

/-- V66 and V67, with capacity 4. -/
theorem test_status80 :
    nextHas (exec .status80 (receiver true 3 0x88#8)) (fun t =>
      t.rx.cursor = 4 && rxSlot t 3 = 0x88#8 && rxSlot t 4 = 0x00#8 && t.ctrl = 0x05#8) = true ∧
    nextHas (exec .status80 (receiver true 4 0x99#8)) (fun t => rxSlot t 4 = 0x00#8 && t.ctrl = 0x05#8) = true := by decide

/-- V68. -/
theorem test_status88 : nextHas (exec .status88 (receiver true 4 0x99#8)) (fun t =>
    t.rx = (receiver true 4 0x99#8).rx && !t.xferActive && t.ctrl = 0x05#8) = true := by decide

/-- V69. -/
theorem test_status90 : nextHas (exec .status90 (receiver true 2 0x77#8)) (fun t =>
    rxSlot t 2 = 0x77#8 && t.rx.cursor = 3 && t.ctrl = 0x45#8) = true := by decide

/-- V70. -/
theorem test_status98 : nextHas (exec .status98 (slave 0)) (fun t => !t.xferActive && t.ctrl = 0x05#8) = true := by decide

/-- V71 and V72. -/
theorem test_statusA0 :
    nextHas (exec .statusA0 (receiver true 3 0x00#8)) (fun t =>
      rxSlot t 3 = 0x00#8 && t.rx.cursor = 3 && !t.xferActive && t.ctrl = 0x45#8) = true ∧
    nextHas (exec .statusA0 (receiver true 4 0x00#8)) (fun t => t.rx = (receiver true 4 0x00#8).rx) = true := by decide

/-- V74 and V75. -/
theorem test_statusA8 :
    nextHas (exec .statusA8 (slave 1)) (fun t =>
      t.direction = .transmit && t.data = 0x58#8 && t.tx.cursor = 1 && t.ctrl = 0x45#8) = true ∧
    nextHas (exec .statusA8 { slave 0 with tx := { live := false, len := 0, cursor := 0, bytes := [] } }) (fun t =>
      t.data = 0x33#8 && t.ctrl = 0x05#8) = true := by decide

/-- V76: the abandoned transfer's buffer is rewound. -/
theorem test_statusB0 : nextHas (exec .statusB0 (master 2)) (fun t =>
    t.data = 0x41#8 && t.tx.cursor = 1 && t.ctrl = 0x45#8) = true := by decide

/-- V77 and V78. -/
theorem test_statusB8 :
    nextHas (exec .statusB8 (slave 1)) (fun t => t.data = 0x59#8 && t.tx.cursor = 2 && t.ctrl = 0x45#8) = true ∧
      nextHas (exec .statusB8 (slave 2)) (fun t => t.data = 0x33#8 && t.ctrl = 0x05#8) = true := by decide

/-- V79 and V80. -/
theorem test_statusC0_C8 :
    nextHas (exec .statusC0 (slave 1)) (fun t => !t.tx.live && !t.xferActive && t.ctrl = 0x45#8) = true ∧
      nextHas (exec .statusC8 (slave 2)) (fun t => !t.tx.live && t.tx.len = 0 && t.ctrl = 0x45#8) = true := by decide

/-- V81. -/
theorem test_status00 : nextHas (exec .status00 (master 1)) (fun t =>
    t.lastError = .illegalStartOrStop && !t.xferActive && t.ctrl = 0x15#8 && t.tx = (master 1).tx) = true := by decide

/-- V82. -/
theorem test_statusF8 : nextHas (exec .statusF8 (slave 0)) (fun t => t.ctrl = 0x45#8) = true := by decide

/-- V83 and E7: one emission, and the event stays pending. -/
theorem test_unmapped :
    nextHas (exec .statusE8 (slave 0)) (fun t => t.debugOut = [.unmapped 0xE8#8] && t.ctrl = 0xC5#8) = true ∧
      nextHas (exec .statusD0 (master 0)) (fun t => t.debugOut = [.unmapped 0xD0#8] && t.ctrl = 0x85#8) = true ∧
      nextHas (exec .statusD8 (master 0)) (fun t => t.debugOut = [.unmapped 0xD8#8]) = true ∧
      nextHas (exec .statusE0 (master 0)) (fun t => t.debugOut = [.unmapped 0xE0#8]) = true ∧
      nextHas (exec .statusF0 (master 0)) (fun t => t.debugOut = [.unmapped 0xF0#8]) = true := by decide

/-! ### Discovery -/

/-- V86 and V13: the clock decides whether `discover` begins. -/
theorem test_discover :
    (discoverBegin 3000000 State.reset).returns = [.returned .bitRateTooLowForMaster] ∧
      (discoverBegin 52800000 State.reset).returns = [.refused .divisorOverflow] ∧
      (discoverBegin 52799999 State.reset).disc = some discoveryStart ∧
      (discoverBegin 52799999 State.reset).bitrate = 0xFF#8 := by decide +kernel

/-- V85. -/
theorem test_report : nextHas (exec .report State.reset) (fun t =>
    t.returns = [.returned .notDiscoveredYet] && t.debugOut = []) = true := by decide

/-- E6: the cell of 0x39 is at row 3, column 9. -/
theorem test_report_row :
    reportRow ((Vector.replicate 128 false).set 0x39 true) 3 =
      [.glyph false, .glyph false, .glyph false, .glyph false, .glyph false, .glyph false, .glyph false, .glyph false,
        .glyph false, .glyph true, .glyph false, .glyph false, .glyph false, .glyph false, .glyph false, .glyph false,
        .rowEnd] := by
  simp [reportRow, List.range_succ, Vector.getD]

/-! ### Agents -/

/-- R144: the byte is left in `DATA` for 0x50 and not for 0x18; the prescaler stays. -/
theorem test_event :
    (periphEvent .free 0x0A#5 0x99#8 { master 0 with ctrl := 0x05#8, status := 0x0A#8 }).data = 0x99#8 ∧
      (periphEvent .free 0x0A#5 0x99#8 { master 0 with ctrl := 0x05#8, status := 0x0A#8 }).status = 0x52#8 ∧
      (periphEvent .free 0x03#5 0x99#8 { master 0 with ctrl := 0x05#8 }).data = 0xFF#8 ∧
      (periphEvent .free 0x03#5 0x99#8 { master 0 with ctrl := 0x05#8 }).ctrl = 0x85#8 := by decide

/-- R146: from idle a requested start is answered by 0x08; after a stop request as master, and after 0x88 with `EA` = 0,
the datasheet's peripheral presents no such code. -/
theorem test_datasheet :
    (periphEvent .datasheet 0x01#5 0x00#8 { master 0 with ctrl := 0x25#8 }).status = 0x08#8 ∧
      (periphEvent .datasheet 0x02#5 0x00#8 { master 0 with ctrl := 0x15#8, status := 0x18#8, busIdle := false }).status =
        0x18#8 ∧
      (periphEvent .datasheet 0x0C#5 0x00#8 { slave 0 with ctrl := 0x05#8, status := 0x88#8, busIdle := false }).status =
        0x88#8 := by decide

/-- R146, R158, R168: idle with `EA = 0` the datasheet's peripheral presents no own address; with `EA = 1` it does, and the
general call (0x70) only with `GCE = 1` (R113). -/
theorem test_datasheet_addressed :
    (periphEvent .datasheet 0x0C#5 0x00#8 { master 0 with ctrl := 0x05#8, busIdle := true }).status = (master 0).status ∧
      (periphEvent .datasheet 0x0C#5 0x00#8 { master 0 with ctrl := 0x45#8, busIdle := true }).status = 0x60#8 ∧
      (periphEvent .datasheet 0x0E#5 0x00#8 { master 0 with ctrl := 0x45#8, addr := 0xE0#8, busIdle := true }).status =
        (master 0).status ∧
      (periphEvent .datasheet 0x0E#5 0x00#8 { master 0 with ctrl := 0x45#8, addr := 0xE1#8, busIdle := true }).status =
        0x70#8 := by decide

/-- A placed status word runs as the first step after reset. -/
theorem test_fetch_status : nextHas (step (State.reset.withFetchWord 8 0x20)) (fun t =>
    t.lastError = .addressNotAcknowledged && t.ackLatch = .negative) = true := by decide +kernel

/-- A placed call runs as the first step after reset. -/
theorem test_fetch_call : nextHas (step (State.reset.withFetchWord 16 0x2003)) (fun t =>
    t.returns = [.returned .notPermittedInSlaveMode]) = true := by decide +kernel

/-! ### Witnesses: the hypotheses of each statement, met by concrete values, clause by clause at boundary values -/

/-- `s` with `m` as its next and only decided move. -/
def queued (m : Move) (s : State) : State := { s with sched := [m] }

/-- `s` with nothing decided. -/
def unqueued (s : State) : State := { s with sched := [] }

theorem queued_moveIs (m : Move) (s : State) : MoveIs (queued m s) m (unqueued s) := .inl ⟨[], rfl, rfl⟩

/-- The same master before any event: `INT` is clear. -/
def waiting : State := { master 0 with ctrl := 0x05#8 }

/-- A scan in progress at address `a`, at line `l`, with an acknowledgment already seen. -/
def scanning (l : DiscoverLine) (a : Fin 128) : Discovery where
  line := l
  a := a
  seen := Vector.replicate 128 false
  any := true

/-- `probing` with a scan in progress. -/
def scan (l : DiscoverLine) (a : Fin 128) : State := { probing with disc := some (scanning l a) }

/-- `RX_MAX` and `TX_MAX` are at least 1 and at most 255, whatever they are (R6). -/
theorem capacities : 1 ≤ Config.rxMax ∧ Config.rxMax < 256 ∧ 1 ≤ Config.txMax ∧ Config.txMax < 256 := by
  refine ⟨Nat.le_add_left _ _, ?_, Nat.le_add_left _ _, ?_⟩
  · exact Nat.succ_lt_succ Config.rxMaxPred.isLt
  · exact Nat.succ_lt_succ Config.txMaxPred.isLt

theorem test_witness_CallEncodingRoundTrips :
    (Instr.isCall (.apply argMT) = true ∧ Instr.wellFormed (.apply argMT) = true) ∧
      Instr.isCall (.setTargetAddress 255) = true ∧ Instr.wellFormed (.setTargetAddress 255) = true := by decide

theorem test_witness_StatusDecodingIsTotalUnderTheMask : Instr.isCall .statusF8 = false := by decide

theorem test_witness_UnknownSelectorIsRefusedByName :
    (0x00#8).toNat = 0 ∧ 12 < (0x0D#8).toNat ∧ 12 < (0xFF#8).toNat ∧
      MoveIs (queued .fg { master 0 with program := [0x0D#8, 0x06#8] }) .fg
        (unqueued { master 0 with program := [0x0D#8, 0x06#8] }) ∧
      (master 0).disc = none :=
  ⟨by decide, by decide, by decide, queued_moveIs _ _, rfl⟩

/-- A state of a run, an activated slave with an event pending, that meets the invariant and has a step. -/
theorem test_witness_EveryStepKeepsTheInvariant :
    StateInv (queued .handler { slave 0 with tx := { live := false, len := 0, cursor := 0, bytes := [] } }) ∧
      ∃ t, step (queued .handler { slave 0 with tx := { live := false, len := 0, cursor := 0, bytes := [] } }) = .next t := by
  refine ⟨⟨⟨Nat.zero_le _, Nat.zero_le _, fun _ => ⟨rfl, rfl⟩, List.Pairwise.nil, ?_⟩,
    ⟨Nat.zero_le _, Nat.zero_le _, fun _ => rfl, List.Pairwise.nil, ?_⟩,
    ⟨rfl, rfl, rfl, rfl, .inr ⟨⟨by decide, by decide, fun h => absurd rfl h⟩, by decide⟩, fun h => absurd rfl h⟩,
    ⟨rfl, rfl, rfl, rfl⟩, ?_⟩, _, rfl⟩
  · intro x hx; cases hx
  · intro x hx; cases hx
  · intro d hd; cases hd

theorem test_witness_AfterResetOnlyTheForegroundActs : Move.handler ≠ .fg ∧ Move.stopDone ≠ .fg := by decide

theorem test_witness_CallsBeforeAnyApply :
    (1 ≤ 1 ∧ 1 ≤ 127) ∧ ([0x41#8] : List Byte).length ≤ Config.txMax ∧ 1 ≤ Config.rxMax ∧
      (3600000 ≤ 3600000 ∧ 3600000 < 52800000) ∧ 3600000 ≤ 52799999 ∧ 52799999 < 52800000 :=
  ⟨by decide, capacities.2.2.1, capacities.1, by decide, by decide, by decide⟩

theorem test_witness_StepRunsTheDeliveredTransition :
    MoveIs (queued .handler (master 0)) .handler (unqueued (master 0)) ∧ ctrlInt (queued .handler (master 0)).ctrl = true ∧
      ctrlIe (queued .handler (master 0)).ctrl = true ∧ (queued .handler (master 0)).gie = true :=
  ⟨queued_moveIs _ _, by decide, by decide, rfl⟩

theorem test_witness_StepRunsTheDecodedCall :
    MoveIs (queued .fg { master 0 with program := [0x03#8, 0x7F#8] }) .fg
        (unqueued { master 0 with program := [0x03#8, 0x7F#8] }) ∧
      (master 0).disc = none ∧ decodeCall [0x03#8, 0x7F#8] = .ok (.setTargetAddress 127, []) ∧
      Instr.wellFormed (.setTargetAddress 127) = true :=
  ⟨queued_moveIs _ _, rfl, by decide, by decide⟩

theorem test_witness_AgentWithoutAStepChangesNothing :
    (MoveIs (queued .handler waiting) .handler (unqueued waiting) ∧
      (ctrlInt waiting.ctrl && ctrlIe waiting.ctrl && waiting.gie) = false) ∧
    (MoveIs (queued (.event 0x01#5 0x00#8) (master 0)) (.event 0x01#5 0x00#8) (unqueued (master 0)) ∧
      ctrlInt (master 0).ctrl = true) ∧
    ctrlEn State.reset.ctrl = false ∧
    (MoveIs (queued .stopDone (master 0)) .stopDone (unqueued (master 0)) ∧ ctrlSto (master 0).ctrl = false) ∧
    MoveIs (queued .fg (master 0)) .fg (unqueued (master 0)) ∧ (master 0).disc = none ∧ (master 0).program = [] :=
  ⟨⟨queued_moveIs _ _, by decide⟩, ⟨queued_moveIs _ _, by decide⟩, by decide, ⟨queued_moveIs _ _, by decide⟩,
    queued_moveIs _ _, rfl, rfl⟩

theorem test_witness_PeripheralPresentsAnEvent :
    MoveIs (queued (.event 0x1F#5 0xFF#8) waiting) (.event 0x1F#5 0xFF#8) (unqueued waiting) ∧
      ctrlEn waiting.ctrl = true ∧ ctrlInt waiting.ctrl = false :=
  ⟨queued_moveIs _ _, by decide, by decide⟩

theorem test_witness_PeripheralExecutesAStop :
    MoveIs (queued .stopDone { master 0 with ctrl := 0x15#8 }) .stopDone (unqueued { master 0 with ctrl := 0x15#8 }) ∧
      ctrlSto 0x15#8 = true ∧ ctrlEn 0x15#8 = true :=
  ⟨queued_moveIs _ _, by decide, by decide⟩

theorem test_witness_PendingEventIsStable :
    MoveIs (queued .stopDone { master 0 with ctrl := 0x95#8 }) .stopDone (unqueued { master 0 with ctrl := 0x95#8 }) ∧
      ctrlInt 0x95#8 = true ∧ ∃ u, step (queued .stopDone { master 0 with ctrl := 0x95#8 }) = .next u :=
  ⟨queued_moveIs _ _, by decide, _, rfl⟩

theorem test_witness_RegisterWritesFollowTheirAccessRules :
    ctrlInt (master 0).ctrl = true ∧ ctrlInt waiting.ctrl = false := by decide

theorem test_witness_RegistersStandAtTheirAddresses : 0xB7 < 0xB8 ∧ 0xBD < 0xBE := by decide

theorem test_witness_StartSentLoadsTheAddressByte :
    Instr.status08 ∈ [Instr.status08, Instr.status10] ∧ Instr.status10 ∈ [Instr.status08, Instr.status10] ∧
      ctrlInt (master 0).ctrl = true := by decide

theorem test_witness_MasterTransmitAddressAck :
    (ctrlInt (master 2).ctrl = true ∧ (master 2).tx.live = true ∧ (master 2).tx.cursor < (master 2).tx.len) ∧
      (master 3).tx.len ≤ (master 3).tx.cursor ∧ probing.tx.live = false := by decide

theorem test_witness_MasterTransmitDataAck :
    (ctrlInt (master 0).ctrl = true ∧ (master 0).tx.live = true ∧ (master 0).tx.cursor < (master 0).tx.len) ∧
      (master 3).tx.len ≤ (master 3).tx.cursor ∧ probing.tx.live = false := by decide

theorem test_witness_BusProtocolErrorsEndInAStop :
    (Instr.status00, CommError.illegalStartOrStop) ∈
      [(Instr.status30, CommError.dataNotAcknowledged), (Instr.status48, CommError.addressNotAcknowledged),
        (Instr.status58, CommError.dataNotAcknowledged), (Instr.status00, CommError.illegalStartOrStop)] := by decide

theorem test_witness_MasterReceiveAddressAck :
    (receiver true 3 0x00#8).rx.cursor < (receiver true 3 0x00#8).rx.capacity ∧
      ((receiver true 4 0x00#8).rx.capacity ≤ (receiver true 4 0x00#8).rx.cursor ∧ (receiver true 4 0x00#8).rx.live = true) ∧
      State.reset.rx.capacity ≤ State.reset.rx.cursor ∧ State.reset.rx.live = false := by decide

theorem test_witness_MasterReceiveDataAck :
    (0 = (if (receiver false 0 0x00#8).rx.live then (receiver false 0 0x00#8).rx.cursor else 0) ∧
      0 + 1 < (receiver false 0 0x00#8).rx.capacity) ∧
    (3 = (if (receiver true 3 0x00#8).rx.live then (receiver true 3 0x00#8).rx.cursor else 0) ∧
      3 + 1 = (receiver true 3 0x00#8).rx.capacity) ∧
    4 = (if (receiver true 4 0x00#8).rx.live then (receiver true 4 0x00#8).rx.cursor else 0) ∧
      (receiver true 4 0x00#8).rx.capacity ≤ 4 := by decide

theorem test_witness_SlaveReceiveAddressed :
    Instr.status60 ∈ [Instr.status60, Instr.status68, Instr.status70, Instr.status78] ∧
      Instr.status78 ∈ [Instr.status60, Instr.status68, Instr.status70, Instr.status78] := by decide

theorem test_witness_SlaveReceiveDataAck :
    Instr.status90 ∈ [Instr.status80, Instr.status90] ∧
    (2 = (if (receiver true 2 0x00#8).rx.live then (receiver true 2 0x00#8).rx.cursor else 0) ∧
      2 + 1 < (receiver true 2 0x00#8).rx.capacity) ∧
    (3 = (if (receiver true 3 0x00#8).rx.live then (receiver true 3 0x00#8).rx.cursor else 0) ∧
      3 + 1 = (receiver true 3 0x00#8).rx.capacity) ∧
    4 = (if (receiver true 4 0x00#8).rx.live then (receiver true 4 0x00#8).rx.cursor else 0) ∧
      (receiver true 4 0x00#8).rx.capacity ≤ 4 := by decide

theorem test_witness_SlaveReceiveDataNack : Instr.status98 ∈ [Instr.status88, Instr.status98] := by decide

theorem test_witness_SlaveStopOrRepeatedStart :
    ((receiver true 3 0x00#8).rx.live = true ∧ (receiver true 3 0x00#8).rx.cursor < (receiver true 3 0x00#8).rx.capacity) ∧
      (receiver true 4 0x00#8).rx.capacity ≤ (receiver true 4 0x00#8).rx.cursor ∧
      (receiver false 0 0x00#8).rx.live = false := by decide

theorem test_witness_SlaveTransmitAddressed :
    Instr.statusB0 ∈ [Instr.statusA8, Instr.statusB0] ∧
      (ctrlInt (slave 2).ctrl = true ∧ (slave 2).tx.live = true ∧ 0 < (slave 2).tx.len) ∧
      probing.tx.live = false ∧ probing.tx.len = 0 := by decide

theorem test_witness_SlaveTransmitDataAck :
    (ctrlInt (slave 1).ctrl = true ∧ (slave 1).tx.live = true ∧ (slave 1).tx.cursor < (slave 1).tx.len) ∧
      (slave 2).tx.len ≤ (slave 2).tx.cursor ∧ probing.tx.live = false := by decide

theorem test_witness_SlaveTransmitEnds : Instr.statusC8 ∈ [Instr.statusC0, Instr.statusC8] := by decide

theorem test_witness_UnmappedCodeOnlyEmits :
    (Instr.statusF0, 0xF0#8) ∈
      [(Instr.statusD0, 0xD0#8), (Instr.statusD8, 0xD8#8), (Instr.statusE0, 0xE0#8), (Instr.statusE8, 0xE8#8),
        (Instr.statusF0, 0xF0#8)] := by decide

theorem test_witness_DivisorIsTheFloorOfTheBitRateEquation : 0 < 1 := by decide

/-- Each branch of the chain of checks is taken: V1, V3, V4, V5, V9, V10, V11 and an unknown mode. -/
theorem test_witness_ApplyChecksInOrderThenActivates :
    (applyOp 16000000 { argMT with prescaler := 4, selfAddr := 0 } State.reset).1 = .refused .prescalerRange ∧
      (applyOp 16000000 { argMT with mode := 3, selfAddr := 0 } State.reset).1 = .refused .modeRange ∧
      (applyOp 16000000 { argMT with selfAddr := 128 } State.reset).1 = .returned .selfAddressOutOfRange ∧
      (applyOp 16000000 { argMT with selfAddr := 0, speed := 0 } State.reset).1 = .returned .selfAddressOutOfRange ∧
      (applyOp 16000000 { argMT with speed := 0 } State.reset).1 = .refused .speedZero ∧
      (applyOp 16000000 { argMT with speed := 500000 } State.reset).1 = .returned .bitRateTooLowForMaster ∧
      (applyOp 16000000 { argMT with speed := 444444 } State.reset).1 = .returned .speedUnsupported ∧
      (applyOp 16000000 { argMT with speed := 10000 } State.reset).1 = .refused .divisorOverflow ∧
      (applyOp 16000000 { argMT with selfAddr := 127 } State.reset).1 = .returned .ok := by decide +kernel

theorem test_witness_SetTargetAddressChecksInOrder :
    127 < 128 ∧ (0x70 ≤ 127 ∧ 0x70 = (master 0).cfg.selfAddr.toNat) ∧
      (127 ≤ 127 ∧ 127 ≠ (slave 0).cfg.selfAddr.toNat ∧ (slave 0).cfg.mode = .slave) ∧
      127 ≠ (master 0).cfg.selfAddr.toNat ∧ 0 ≠ (master 0).cfg.selfAddr.toNat ∧ (master 0).cfg.mode ≠ .slave := by decide

theorem test_witness_FillTransmitReplacesTheBuffer :
    ({ defaultProfile with mode := .masterReceive } : BusConfig).mode = .masterReceive ∧
      ((master 0).cfg.mode ≠ .masterReceive ∧ Config.txMax < (List.replicate 256 0x00#8).length) ∧
      ([0x41#8] : List Byte).length ≤ Config.txMax ∧ (List.replicate Config.txMax 0x00#8).length ≤ Config.txMax := by
  refine ⟨rfl, ⟨by decide, ?_⟩, capacities.2.2.1, ?_⟩
  · rw [List.length_replicate]; exact capacities.2.2.2
  · rw [List.length_replicate]

theorem test_witness_SetReceiveCapacityRecordsTheCapacity :
    Config.rxMax < Config.rxMax + 1 ∧ Config.rxMax < 256 ∧ 0 ≤ Config.rxMax ∧ Config.rxMax ≤ Config.rxMax :=
  ⟨Nat.lt_succ_self _, capacities.2.1, Nat.zero_le _, Nat.le_refl _⟩

theorem test_witness_StartRequestsTheStartCondition :
    State.reset.cfg.activate = false ∧ ((slave 0).cfg.activate = true ∧ (slave 0).cfg.mode = .slave) ∧
      (master 0).cfg.activate = true ∧ (master 0).cfg.mode ≠ .slave := by decide

theorem test_witness_GetReceivedReturnsTheCompletedReceive :
    (0 < (receiver true 4 0x00#8).rx.cursor ∧ rxSlot (receiver true 4 0x00#8) 4 = 0x00#8) ∧
      State.reset.rx.cursor = 0 ∧ rxSlot (receiver true 2 0x00#8) 2 ≠ 0x00#8 := by decide

theorem test_witness_FlushReleasesALiveBuffer :
    (receiver true 0 0x00#8).rx.live = true ∧ State.reset.rx.live = false ∧ (master 0).tx.live = true ∧
      probing.tx.live = false := by decide

/-- Both ends of each range of the clock, 3600000 and 52800000 Hz. -/
theorem test_witness_DiscoverAppliesTheDefaultProfile :
    (discoverBegin 3599999 State.reset).returns = [.returned .bitRateTooLowForMaster] ∧
      (discoverBegin 3600000 State.reset).disc = some discoveryStart ∧
      (discoverBegin 3600000 State.reset).bitrate = 0x0A#8 ∧
      (discoverBegin 52800000 State.reset).refused = true := by decide +kernel

theorem test_witness_DiscoverRunsItsLinesInOrder :
    (∀ l a, MoveIs (queued .fg (scan l a)) .fg (unqueued (scan l a)) ∧
      (queued .fg (scan l a)).disc = some (scanning l a)) ∧
    (scanning .loopHead 127).a.val ≠ probing.cfg.selfAddr.toNat ∧
    (scanning .loopHead 0x70).a.val = probing.cfg.selfAddr.toNat ∧
    (probing.cfg.activate = true ∧ probing.cfg.mode ≠ .slave) ∧ State.reset.cfg.activate = false ∧
    probing.ackLatch = .unset ∧ ({ probing with ackLatch := .negative } : State).ackLatch ≠ .unset ∧
    (scanning (.record .positive) 127).line = .record .positive :=
  ⟨fun _ _ => ⟨queued_moveIs _ _, rfl⟩, by decide, by decide, by decide, rfl, rfl, by decide, rfl⟩

theorem test_witness_DiscoverCommitsItsResult :
    MoveIs (queued .fg (scan .commit 127)) .fg (unqueued (scan .commit 127)) ∧
      (queued .fg (scan .commit 127)).disc = some (scanning .commit 127) ∧ (scanning .commit 127).line = .commit :=
  ⟨queued_moveIs _ _, rfl, rfl⟩

/-- `probing` at the start of a scan of a bus on which 0x10 and 0x39 acknowledge (P3), served in turn. -/
def p3 : State := {
  probing with
  ctrl := 0x05#8
  disc := some discoveryStart
  sched := scanMoves (fun a => a == 0x10 || a == 0x39) (fun _ => 0x00#8) 0 128 ++ [.fg] }

theorem test_witness_DiscoverFindsExactlyTheAcknowledgers :
    (p3.disc = some discoveryStart ∧ p3.cfg = defaultProfile ∧ p3.gie = true ∧ p3.tx.live = false ∧
      p3.ackLatch = .unset ∧ ctrlInt p3.ctrl = false ∧ ctrlEn p3.ctrl = true ∧ ctrlIe p3.ctrl = true ∧
      p3.sched = scanMoves (fun a => a == 0x10 || a == 0x39) (fun _ => 0x00#8) 0 128 ++ .fg :: []) ∧
    (∃ a : Nat, a < 128 ∧ a ≠ 0x70 ∧ (a == 0x10 || a == 0x39) = true) ∧
    ∀ a : Nat, a < 128 → a ≠ 0x70 → (fun _ : Nat => false) a = false :=
  ⟨⟨rfl, rfl, rfl, rfl, rfl, by decide, by decide, by decide, rfl⟩, ⟨0x39, by decide, by decide, by decide⟩,
    fun _ _ _ => rfl⟩

theorem test_witness_ReportRendersTheGrid :
    State.reset.discoveredOk = false ∧ ({ State.reset with discoveredOk := true } : State).discoveredOk = true := by decide

theorem test_witness_OnlyTheHandlerWritesTheLastError :
    MoveIs (queued .stopDone (master 0)) .stopDone (unqueued (master 0)) ∧ Move.stopDone ≠ .handler ∧
      ∃ u, step (queued .stopDone (master 0)) = .next u :=
  ⟨queued_moveIs _ _, by decide, _, rfl⟩

theorem test_witness_StickyMarksAreNeverCleared :
    (∃ t, step (queued .handler { master 0 with refused := true, discoveredOk := true }) = .next t) ∧
      ({ master 0 with refused := true, discoveredOk := true } : State).refused = true :=
  ⟨⟨_, rfl⟩, rfl⟩

theorem test_witness_HandlerKeepsConfigurationAndEnables :
    MoveIs (queued .handler (master 0)) .handler (unqueued (master 0)) ∧
      ∃ u, step (queued .handler (master 0)) = .next u :=
  ⟨queued_moveIs _ _, _, rfl⟩

/-- An address acknowledgment is delivered, and the latch changes. -/
theorem test_witness_OnlyAddressAnswersSetTheLatch :
    MoveIs (queued .handler { master 0 with status := 0x18#8 }) .handler (unqueued { master 0 with status := 0x18#8 }) ∧
      nextHas (step (queued .handler { master 0 with status := 0x18#8 })) (fun u => u.ackLatch = .positive) = true ∧
      (master 0).ackLatch = .unset :=
  ⟨queued_moveIs _ _, by decide, rfl⟩

theorem test_witness_MappedTransitionsRetireTheEvent :
    Instr.isCall .statusF8 = false ∧ isUnmapped .statusF8 = false ∧ Instr.isCall .statusD0 = false ∧
      isUnmapped .statusD0 = true := by decide

theorem test_witness_ReceiveArenaFrame :
    storedSlots .status50 (receiver true 3 0x00#8) = [3, 4] ∧ 2 ∉ storedSlots .status50 (receiver true 3 0x00#8) ∧
      3 ∉ storedSlots .status80 (receiver true 4 0x00#8) := by decide

theorem test_witness_TransmitArenaFrame :
    filledSlots .stop (master 0) ≤ 0 ∧ filledSlots (.fillTransmit []) (master 0) ≤ 0 := by
  refine ⟨Nat.le_refl _, ?_⟩
  simp [filledSlots]

theorem test_witness_ArbitrationRetrySkipsTheLostByte :
    (ctrlInt (master 1).ctrl = true ∧ ctrlEn (master 1).ctrl = true ∧ (master 1).tx.live = true ∧
      (master 1).tx.cursor + 1 < (master 1).tx.len ∧ Instr.status18 ∈ [Instr.status18, Instr.status28] ∧
      Instr.status28 ∈ [Instr.status18, Instr.status28]) ∧
      (ctrlInt (master 2).ctrl = true ∧ ctrlEn (master 2).ctrl = true ∧ (master 2).tx.live = true ∧
        (master 2).tx.cursor < (master 2).tx.len) := by decide

theorem test_witness_DatasheetPeripheralRefinesTheFreeOne :
    (ctrlEa (master 0).ctrl = false ∧ (0x0C#5 : StatusField) ∈ [0x0C#5, 0x0D#5, 0x0E#5, 0x0F#5, 0x15#5, 0x16#5]) ∧
      (State.reset.addr.getLsbD 0 = false ∧ (0x0F#5 : StatusField) ∈ [0x0E#5, 0x0F#5]) ∧
      (State.reset.busIdle = true ∧ ctrlEa State.reset.ctrl = false ∧ ctrlSta State.reset.ctrl = false) ∧
      (0x88#8 : Byte) &&& 0xF8#8 = 0x88#8 ∧ (0x98#8 : Byte) &&& 0xF8#8 = 0x98#8 ∧
      ctrlEa 0x05#8 = false ∧ ctrlSta 0x05#8 = false ∧ (0x0C#5 : StatusField) ≠ 0x00#5 := by decide

end Sys2Proof.Tests
end

/-! What each agent's step keeps of the state, said once, and the statements about the state, the registers and the
invariant that follow from it. -/

namespace Sys2Proof.Machine

/-! ### The bits of `CTRL` and `STATUS` after a write by the block -/

theorem ctrlInt_ctrlAfterWrite (old v : Byte) :
    ctrlInt (ctrlAfterWrite old v) = (ctrlInt old && !v.getLsbD 7) := by
  unfold ctrlInt ctrlAfterWrite
  split <;> simp_all

theorem ctrlEa_ctrlAfterWrite (old v : Byte) : ctrlEa (ctrlAfterWrite old v) = v.getLsbD 6 := by
  unfold ctrlEa ctrlAfterWrite
  split <;> simp

theorem ctrlSta_ctrlAfterWrite (old v : Byte) : ctrlSta (ctrlAfterWrite old v) = v.getLsbD 5 := by
  unfold ctrlSta ctrlAfterWrite
  split <;> simp

theorem ctrlSto_ctrlAfterWrite (old v : Byte) : ctrlSto (ctrlAfterWrite old v) = v.getLsbD 4 := by
  unfold ctrlSto ctrlAfterWrite
  split <;> simp

theorem ctrlEn_ctrlAfterWrite (old v : Byte) : ctrlEn (ctrlAfterWrite old v) = v.getLsbD 2 := by
  unfold ctrlEn ctrlAfterWrite
  split <;> simp

theorem ctrlIe_ctrlAfterWrite (old v : Byte) : ctrlIe (ctrlAfterWrite old v) = v.getLsbD 0 := by
  unfold ctrlIe ctrlAfterWrite
  split <;> simp

/-- A write of `STATUS` keeps the upper six bits and takes the prescaler (R23). -/
theorem statusAfterWrite_eq_append (old v : Byte) :
    statusAfterWrite old v = old.extractLsb' 2 6 ++ v.extractLsb' 0 2 := by
  refine BitVec.eq_of_getLsbD_eq fun i hi => ?_
  rw [BitVec.getLsbD_append]
  interval_cases i <;> simp [statusAfterWrite]

/-- Settles O17, register by register from what a write leaves in each bit. -/
theorem registerWritesFollowTheirAccessRules : Obligations.RegisterWritesFollowTheirAccessRules := by
  intro s v
  exact ⟨rfl, ctrlInt_ctrlAfterWrite _ _, ctrlEa_ctrlAfterWrite _ _, ctrlSta_ctrlAfterWrite _ _,
    ctrlSto_ctrlAfterWrite _ _, ctrlWc_ctrlAfterWrite _ _, ctrlEn_ctrlAfterWrite _ _, bit1_ctrlAfterWrite _ _,
    ctrlIe_ctrlAfterWrite _ _, by rw [writeReg_status, statusAfterWrite_eq_append],
    writeData_of_pending s v, writeData_of_idle s v, rfl, rfl, rfl⟩

/-! ### Reset -/

/-- Settles O5: the reset state holds each value of the table, and its arenas list no slot. -/
theorem resetLeavesTheValuesOfTheTable : Obligations.ResetLeavesTheValuesOfTheTable := by
  have found : ∀ a : Fin 128, State.reset.found[a] = false := by simp [State.reset]
  exact ⟨rfl, rfl, rfl, rfl, rfl, rfl, rfl, rfl, rfl, rfl, rfl, rfl, rfl, fun _ => rfl, rfl, rfl, rfl, fun _ => rfl,
    rfl, rfl, found, rfl, rfl, rfl, rfl, rfl⟩

/-- Settles O6: the registers are those of the reset configuration, and both buffers are dead and empty. -/
theorem resetMeetsTheInvariant : Obligations.ResetMeetsTheInvariant where
  tx := ⟨le_rfl, Nat.zero_le _, fun _ => ⟨rfl, rfl⟩, (Memory.wf_reset _).1⟩
  rx := ⟨Nat.zero_le _, Nat.zero_le _, fun _ => rfl, (Memory.wf_reset _).2⟩
  regs := ⟨rfl, rfl, rfl, rfl, .inl ⟨rfl, rfl⟩, fun h => absurd rfl h⟩
  reserved := ⟨rfl, rfl, rfl, rfl⟩
  disc := nofun

/-! ### The move a step makes -/

/-- Every state has a next move. -/
theorem exists_moveIs (s : State) : ∃ m t, MoveIs s m t := by
  cases h : s.sched with
  | nil => exact ⟨_, _, .inr ⟨h, rfl, rfl⟩⟩
  | cons m rest => exact ⟨m, _, .inl ⟨rest, h, rfl⟩⟩

/-- A step is the step of the agent whose move is next. -/
theorem MoveIs.step_eq {s t : State} {m : Move} (h : MoveIs s m t) : step s = runMove m t := by
  rcases h with ⟨rest, hs, rfl⟩ | ⟨hs, rfl, rfl⟩ <;> simp [step, stepMove, nextMove, hs]

/-- Taking a move changes nothing but the schedule. -/
theorem MoveIs.eq_with {s t : State} {m : Move} (h : MoveIs s m t) :
    ∃ q n, t = { s with sched := q, tick := n } := by
  rcases h with ⟨rest, -, rfl⟩ | ⟨hs, -, rfl⟩
  · exact ⟨rest, s.tick, rfl⟩
  · exact ⟨s.sched, s.tick + 1, rfl⟩

/-! ### PERIPH's two steps -/

/-- PERIPH's event step: none, or, while no event is pending, what R144 says. -/
theorem periphEvent_cases (p : PeriphModel) (f : StatusField) (d : Byte) (s : State) :
    periphEvent p f d s = s ∨ ∃ b, periphEvent p f d s =
      { s with status := statusSetCode s.status f, data := b, ctrl := ctrlSetInt s.ctrl, busIdle := false } := by
  unfold periphEvent
  split
  · exact .inr ⟨_, rfl⟩
  · exact .inl rfl

/-- PERIPH's stop step: none, or what R145 says. -/
theorem periphStop_cases (s : State) :
    periphStop s = s ∨ periphStop s = { s with ctrl := ctrlClearSto s.ctrl, busIdle := true } := by
  unfold periphStop
  split
  · exact .inr rfl
  · exact .inl rfl

/-- With an event pending PERIPH has no event step, and its stop step clears `STO` alone (R20, R145). -/
theorem runMove_periph_of_pending {s u : State} {m : Move} (hm : m = .stopDone ∨ ∃ f d, m = .event f d)
    (hu : runMove m s = .next u) (hint : ctrlInt s.ctrl = true) :
    u.status = s.status ∧ u.data = s.data ∧ ctrlInt u.ctrl = true := by
  rcases hm with rfl | ⟨f, d, rfl⟩
  · cases hu
    rcases periphStop_cases s with h | h <;> rw [h]
    · exact ⟨rfl, rfl, hint⟩
    · exact ⟨rfl, rfl, (ctrlInt_ctrlClearSto _).trans hint⟩
  · rw [runMove, periphEvent_pending hint] at hu
    cases hu
    exact ⟨rfl, rfl, hint⟩

/-- Settles O15, by what PERIPH's two steps do while an event is pending. -/
theorem pendingEventIsStable : Obligations.PendingEventIsStable := by
  intro s t u m hm hmove hint hu
  rw [hmove.step_eq] at hu
  obtain ⟨q, n, rfl⟩ := hmove.eq_with
  have stable := runMove_periph_of_pending hm hu
  exact stable hint

/-! ### The buffers' invariants, operation by operation -/

section Buffers

variable {M : Nat} {tx : TxBuffer} {rx : RxBuffer}

theorem TxInv.release (h : TxInv M tx) : TxInv M { tx with live := false, len := 0, cursor := 0 } :=
  ⟨le_rfl, Nat.zero_le _, fun _ => ⟨rfl, rfl⟩, h.arena⟩

theorem TxInv.rewind (h : TxInv M tx) : TxInv M { tx with cursor := 0 } :=
  ⟨Nat.zero_le _, h.len_le, fun hl => ⟨(h.dead hl).1, rfl⟩, h.arena⟩

/-- The cursor advances only over a byte that remains, so that the buffer is live (R57, R58). -/
theorem TxInv.advance (h : TxInv M tx) (hl : tx.live = true) (hc : tx.cursor < tx.len) :
    TxInv M { tx with cursor := tx.cursor + 1 } :=
  ⟨hc, h.len_le, fun hd => absurd (hl.symm.trans hd) (by decide), h.arena⟩

theorem TxInv.fill (h : TxInv M tx) {bs : List Byte} (hb : bs.length ≤ M) :
    TxInv M { live := true, len := bs.length, cursor := 0, bytes := Memory.writeList tx.bytes 0 bs } :=
  ⟨Nat.zero_le _, hb, nofun, Memory.wf_writeList bs h.arena (by omega)⟩

theorem RxInv.release (h : RxInv M rx) : RxInv M { rx with live := false, cursor := 0 } :=
  ⟨Nat.zero_le _, h.capacity_le, fun _ => rfl, h.arena⟩

theorem RxInv.withCapacity (h : RxInv M rx) {n : Nat} (hn : n ≤ M) : RxInv M { rx with capacity := n } :=
  ⟨h.cursor_le, hn, h.dead, h.arena⟩

theorem RxInv.sentinel (h : RxInv M rx) : RxInv M (rxPut rx rx.cursor Config.sentinel) :=
  ⟨h.cursor_le, h.capacity_le, h.dead, Memory.wf_write h.arena (Nat.lt_succ_of_le h.cursor_le) _⟩

/-- A buffer just allocated is live (R60). -/
theorem rxAlloc_live (rx : RxBuffer) : (rxAlloc rx).live = true := by
  unfold rxAlloc
  split
  · assumption
  · rfl

theorem RxInv.alloc (h : RxInv M rx) : RxInv M (rxAlloc rx) := by
  unfold rxAlloc
  split
  · exact h
  · exact ⟨Nat.zero_le _, h.capacity_le, nofun, h.arena⟩

/-- An appended byte goes below the capacity, and the sentinel after the last one into the slot that the arena has more
than data bytes (R34, R62). -/
theorem RxInv.store (h : RxInv M rx) (hl : rx.live = true) (b : Byte) : RxInv M (rxStore b rx) := by
  have live {c m} : ({ rx with cursor := c, slots := m } : RxBuffer).live = false → c = 0 :=
    fun hd => absurd (hl.symm.trans hd) (by decide)
  have hcap := h.capacity_le
  rcases lt_trichotomy (rx.cursor + 1) rx.capacity with hlt | heq | hgt
  · rw [rxStore_keep b hlt]
    exact ⟨by simp only; omega, hcap, live, Memory.wf_write h.arena (by omega) _⟩
  · rw [rxStore_fill b heq]
    exact ⟨by simp only; omega, hcap, live,
      Memory.wf_write (Memory.wf_write h.arena (by omega) _) (by omega) _⟩
  · rw [rxStore_drop b (Nat.le_of_lt_succ hgt)]
    exact h

end Buffers

/-! ### What a write of `CTRL` must keep for the invariant -/

/-- `EN`, `IE` and the reserved bit are as before, and `WC` has not been set. -/
structure CtrlKept (c c' : Byte) : Prop where
  enable    : ctrlEn c' = ctrlEn c
  irq       : ctrlIe c' = ctrlIe c
  bit1      : c'.getLsbD 1 = c.getLsbD 1
  collision : ctrlWc c = false → ctrlWc c' = false

theorem CtrlKept.refl (c : Byte) : CtrlKept c c := ⟨rfl, rfl, rfl, id⟩

theorem CtrlKept.trans {a b c : Byte} (h : CtrlKept a b) (k : CtrlKept b c) : CtrlKept a c :=
  ⟨k.enable.trans h.enable, k.irq.trans h.irq, k.bit1.trans h.bit1, k.collision ∘ h.collision⟩

/-- The control word of R66 copies `EN` and `IE`. -/
theorem ctrlKept_ctl (c : Byte) (sta sto ea : Bool) : CtrlKept c (ctrlAfterWrite c (ctl c sta sto ea)) :=
  ⟨ctrlEn_ctrlAfterWrite_ctl _ _ _ _, ctrlIe_ctrlAfterWrite_ctl _ _ _ _, bit1_ctrlAfterWrite _ _,
    (ctrlWc_ctrlAfterWrite _ _).trans⟩

/-- The word that status 0xF8 writes is `CTRL` itself with bit 7 set (R126). -/
theorem ctrlKept_noInformation (c : Byte) : CtrlKept c (ctrlAfterWrite c ((c &&& 0x7F#8) ||| 0x80#8)) :=
  ⟨by rw [ctrlEn_ctrlAfterWrite]; simp [ctrlEn], by rw [ctrlIe_ctrlAfterWrite]; simp [ctrlIe],
    bit1_ctrlAfterWrite _ _, (ctrlWc_ctrlAfterWrite _ _).trans⟩

theorem ctrlKept_clearWc (c : Byte) : CtrlKept c (ctrlClearWc c) :=
  ⟨ctrlEn_ctrlClearWc c, ctrlIe_ctrlClearWc c, bit1_ctrlClearWc c, fun _ => ctrlWc_ctrlClearWc c⟩

theorem ctrlKept_setInt (c : Byte) : CtrlKept c (ctrlSetInt c) :=
  ⟨ctrlEn_ctrlSetInt c, ctrlIe_ctrlSetInt c, bit1_ctrlSetInt c, (ctrlWc_ctrlSetInt c).trans⟩

theorem ctrlKept_clearSto (c : Byte) : CtrlKept c (ctrlClearSto c) :=
  ⟨ctrlEn_ctrlClearSto c, ctrlIe_ctrlClearSto c, bit1_ctrlClearSto c, (ctrlWc_ctrlClearSto c).trans⟩

section Steps

variable {s t u : State}

/-! ### The invariant from its parts -/

/-- What of a state only `apply` writes, the rest as after reset: the configuration, `gie` and the registers that hold
the configuration. -/
def State.setup (s : State) : State :=
  { State.reset with cfg := s.cfg, gie := s.gie, addr := s.addr, bitrate := s.bitrate, amr := s.amr }

/-- The invariant's hold on the registers: what `apply` set up stands, and `STATUS` keeps the prescaler and the reserved
bit. Every step but an accepted `apply` keeps it. -/
structure RegistersKept (s t : State) : Prop where
  setup      : t.setup = s.setup
  ctrl       : CtrlKept s.ctrl t.ctrl
  prescaler  : t.status &&& 0x03#8 = s.status &&& 0x03#8
  statusBit2 : t.status.getLsbD 2 = s.status.getLsbD 2

/-- A step that leaves `CTRL`, `STATUS` and the setup alone keeps the registers. -/
theorem RegistersKept.of_eq (hsetup : t.setup = s.setup) (hctrl : t.ctrl = s.ctrl) (hstatus : t.status = s.status) :
    RegistersKept s t :=
  ⟨hsetup, hctrl ▸ .refl _, by rw [hstatus], by rw [hstatus]⟩

/-- Whatever is read of the setup reads as before. -/
theorem RegistersKept.kept {α : Type} (k : RegistersKept s t) (p : State → α) : p t.setup = p s.setup :=
  congrArg p k.setup

theorem RegInv.of_kept {f : Nat} (h : RegInv f s) (k : RegistersKept s t) : RegInv f t := by
  have hcfg : t.cfg = s.cfg := k.kept State.cfg
  have hgie : t.gie = s.gie := k.kept State.gie
  have haddr : t.addr = s.addr := k.kept State.addr
  have hrate : t.bitrate = s.bitrate := k.kept State.bitrate
  constructor
  case enable => rw [k.ctrl.enable, h.enable, hcfg]
  case irq => rw [k.ctrl.irq, h.irq, hcfg]
  case global => rw [hgie, h.global, hcfg]
  case prescaler => rw [k.prescaler, h.prescaler, hcfg]
  case config => rw [hcfg, haddr]; exact h.config
  case bitrate => rw [hcfg, hrate]; exact h.bitrate

theorem ReservedInv.of_kept (h : ReservedInv s) (k : RegistersKept s t) : ReservedInv t :=
  ⟨k.ctrl.bit1.trans h.ctrlBit1, k.ctrl.collision h.collision, k.statusBit2.trans h.statusBit2,
    (k.kept State.amr).trans h.mask⟩

/-- A step that keeps the registers keeps the invariant, if it keeps the buffers' and the scan's part. -/
theorem StateInv.of_kept (h : StateInv s) (k : RegistersKept s t)
    (htx : TxInv Config.txMax s.tx → TxInv Config.txMax t.tx) (hrx : RxInv Config.rxMax s.rx → RxInv Config.rxMax t.rx)
    (hdisc : ∀ d, t.disc = some d → DiscInv t d) : StateInv t :=
  ⟨htx h.tx, hrx h.rx, h.regs.of_kept k, h.reserved.of_kept k, hdisc⟩

/-- The scan's part of the invariant speaks of the configuration only. -/
theorem DiscInv.of_cfg {d : Discovery} (h : DiscInv s d) (hcfg : t.cfg = s.cfg) : DiscInv t d :=
  ⟨hcfg.trans h.profile, h.probed⟩

/-- A step that keeps registers, buffers and scan keeps the invariant. -/
theorem StateInv.of_sameDisc (h : StateInv s) (k : RegistersKept s t)
    (htx : TxInv Config.txMax s.tx → TxInv Config.txMax t.tx) (hrx : RxInv Config.rxMax s.rx → RxInv Config.rxMax t.rx)
    (hdisc : t.disc = s.disc) : StateInv t :=
  h.of_kept k htx hrx fun d hd => (h.disc d (hdisc ▸ hd)).of_cfg (k.kept State.cfg)

/-- The scan moves on to a position that meets its part of the invariant. -/
theorem StateInv.withDisc (h : StateInv s) {d : Discovery} (hd : DiscInv s d) :
    StateInv { s with disc := some d } :=
  h.of_kept (.of_eq rfl rfl rfl) id id fun e he => by
    cases he
    exact hd.of_cfg rfl

theorem StateInv.of_moveIs {m : Move} (h : StateInv s) (hm : MoveIs s m t) : StateInv t := by
  obtain ⟨q, n, rfl⟩ := hm.eq_with
  exact h.of_sameDisc (.of_eq rfl rfl rfl) id id rfl

/-! ### PERIPH keeps the invariant -/

theorem StateInv.periphEvent (h : StateInv s) (p : PeriphModel) (f : StatusField) (d : Byte) :
    StateInv (Machine.periphEvent p f d s) := by
  rcases periphEvent_cases p f d s with he | ⟨b, he⟩ <;> rw [he]
  · exact h
  · exact h.of_sameDisc ⟨rfl, ctrlKept_setInt _, prescaler_statusSetCode _ _, bit2_statusSetCode _ _⟩ id id rfl

theorem StateInv.periphStop (h : StateInv s) : StateInv (Machine.periphStop s) := by
  rcases periphStop_cases s with he | he <;> rw [he]
  · exact h
  · exact h.of_sameDisc ⟨rfl, ctrlKept_clearSto _, rfl, rfl⟩ id id rfl

/-! ### What a transition of HANDLER may do -/

/-- The state without what a transition of HANDLER may write. -/
def State.outsideEvent (s : State) : State :=
  { s with
    ctrl := 0x00#8, data := 0x00#8, direction := .unknown, tx := State.reset.tx, rx := State.reset.rx
    lastError := .none, ackLatch := .unset, xferActive := false, debugOut := [] }

/-- What a transition of HANDLER may do to `s`: it keeps everything outside the event's reach, the enables in `CTRL` and
the buffers' invariants, and leaves the latch at `l`. -/
structure EventStep (l : AckLatch) (s t : State) : Prop where
  outside : t.outsideEvent = s.outsideEvent
  latch   : t.ackLatch = l
  ctrl    : CtrlKept s.ctrl t.ctrl
  tx      : TxInv Config.txMax s.tx → TxInv Config.txMax t.tx
  rx      : RxInv Config.rxMax s.rx → RxInv Config.rxMax t.rx

/-- Whatever is read outside the event's reach reads as before. -/
theorem EventStep.kept {l : AckLatch} {α : Type} (k : EventStep l s t) (p : State → α) :
    p t.outsideEvent = p s.outsideEvent :=
  congrArg p k.outside

/-- Such a step keeps the invariant: the setup, `STATUS` and the scan are out of its reach. -/
theorem StateInv.of_eventStep {l : AckLatch} (h : StateInv s) (k : EventStep l s t) : StateInv t :=
  h.of_sameDisc ⟨k.kept State.setup, k.ctrl, k.kept (·.status &&& 0x03#8), k.kept (·.status.getLsbD 2)⟩
    k.tx k.rx (k.kept State.disc)

namespace EventStep

variable {l : AckLatch}

theorem refl (s : State) : EventStep s.ackLatch s s := ⟨rfl, rfl, .refl _, id, id⟩

/-! One rule for each operation that the transitions are written with. -/

theorem then_setLatch (h : EventStep l s t) (k : AckLatch) : EventStep k s (setLatch k t) :=
  ⟨h.outside, rfl, h.ctrl, h.tx, h.rx⟩

theorem then_setXfer (h : EventStep l s t) (b : Bool) : EventStep l s (setXfer b t) :=
  ⟨h.outside, h.latch, h.ctrl, h.tx, h.rx⟩

theorem then_setError (h : EventStep l s t) (e : CommError) : EventStep l s (setError e t) :=
  ⟨h.outside, h.latch, h.ctrl, h.tx, h.rx⟩

theorem then_setDirection (h : EventStep l s t) (d : Direction) : EventStep l s (setDirection d t) :=
  ⟨h.outside, h.latch, h.ctrl, h.tx, h.rx⟩

theorem then_emit (h : EventStep l s t) (e : Emission) : EventStep l s (emit e t) :=
  ⟨h.outside, h.latch, h.ctrl, h.tx, h.rx⟩

theorem then_finish (h : EventStep l s t) {c : Byte} (hc : CtrlKept t.ctrl (ctrlAfterWrite t.ctrl c)) :
    EventStep l s (finish c t) :=
  ⟨h.outside, h.latch, h.ctrl.trans hc, h.tx, h.rx⟩

theorem then_finishCtl (h : EventStep l s t) (sta sto ea : Bool) : EventStep l s (finishCtl sta sto ea t) :=
  h.then_finish (ctrlKept_ctl _ _ _ _)

/-- While the event is pending a write of `DATA` does not set `WC` (R24). -/
theorem then_writeData (h : EventStep l s t) (hp : ctrlInt t.ctrl = true) (v : Byte) :
    EventStep l s (t.writeData v) := by
  rw [writeData_of_pending t v hp]
  exact ⟨h.outside, h.latch, h.ctrl.trans (ctrlKept_clearWc _), h.tx, h.rx⟩

theorem then_txRelease (h : EventStep l s t) : EventStep l s (txRelease t) :=
  ⟨h.outside, h.latch, h.ctrl, fun i => (h.tx i).release, h.rx⟩

theorem then_txAdvance (h : EventStep l s t) (hn : txHasNext t = true) : EventStep l s (txAdvance t) :=
  have ⟨hl, hc⟩ := (txHasNext_iff t).1 hn
  ⟨h.outside, h.latch, h.ctrl, fun i => (h.tx i).advance hl hc, h.rx⟩

theorem then_txRewind (h : EventStep l s t) : EventStep l s { t with tx := { t.tx with cursor := 0 } } :=
  ⟨h.outside, h.latch, h.ctrl, fun i => (h.tx i).rewind, h.rx⟩

theorem then_rxAppend (h : EventStep l s t) (b : Byte) : EventStep l s (rxAppend b t) :=
  ⟨h.outside, h.latch, h.ctrl, h.tx, fun i => (h.rx i).alloc.store (rxAlloc_live _) b⟩

theorem then_rxSentinel (h : EventStep l s t) : EventStep l s (rxSentinel t) := by
  unfold rxSentinel
  split
  · exact ⟨h.outside, h.latch, h.ctrl, h.tx, fun i => (h.rx i).sentinel⟩
  · exact h

theorem then_fullCapacity (h : EventStep l s t) :
    EventStep l s { t with rx := { t.rx with capacity := Config.rxMax } } :=
  ⟨h.outside, h.latch, h.ctrl, h.tx, fun i => (h.rx i).withCapacity le_rfl⟩

/-! The shared sub-transitions. -/

theorem then_issueStop (h : EventStep l s t) : EventStep l s (issueStop t) :=
  (h.then_setXfer _).then_finishCtl _ _ _

theorem then_failWith (h : EventStep l s t) (e : CommError) : EventStep l s (failWith e t) :=
  (h.then_setError e).then_issueStop

theorem then_loadNext (h : EventStep l s t) (hp : ctrlInt t.ctrl = true) (hn : txHasNext t = true) :
    EventStep l s (loadNext t) :=
  (h.then_txAdvance hn).then_writeData hp _

theorem then_startSent (h : EventStep l s t) (hp : ctrlInt t.ctrl = true) : EventStep l s (startSent t) :=
  (h.then_writeData hp _).then_finishCtl _ _ _

theorem then_mtData (h : EventStep l s t) (hp : ctrlInt t.ctrl = true) : EventStep l s (mtData t) := by
  cases hn : txHasNext t with
  | true => rw [mtData_of_next t hn]; exact (h.then_loadNext hp hn).then_finishCtl _ _ _
  | false => rw [mtData_of_end t hn]; exact h.then_txRelease.then_issueStop

theorem then_mrAck (h : EventStep l s t) : EventStep l s (mrAck t) := by
  rcases Nat.lt_or_ge t.rx.cursor t.rx.capacity with hc | hc
  · rw [mrAck_of_room t hc]; exact h.then_finishCtl _ _ _
  · rw [mrAck_of_full t hc]; exact h.then_rxSentinel.then_finishCtl _ _ _

theorem then_srAddressed (h : EventStep l s t) : EventStep l s (srAddressed Config.rxMax t) :=
  ((h.then_setDirection _).then_setXfer _).then_fullCapacity.then_finishCtl _ _ _

theorem then_srData (h : EventStep l s t) : EventStep l s (srData t) :=
  (h.then_rxAppend _).then_finishCtl _ _ _

theorem then_srNack (h : EventStep l s t) : EventStep l s (srNack t) :=
  (h.then_setXfer _).then_finishCtl _ _ _

theorem then_stData (h : EventStep l s t) (hp : ctrlInt t.ctrl = true) : EventStep l s (stData t) := by
  cases hn : txHasNext t with
  | true => rw [stData_of_next t hn]; exact (h.then_loadNext hp hn).then_finishCtl _ _ _
  | false => rw [stData_of_end t hn]; exact h.then_finishCtl _ _ _

theorem then_stAddressed (h : EventStep l s t) (hp : ctrlInt t.ctrl = true) : EventStep l s (stAddressed t) :=
  ((h.then_setDirection _).then_setXfer _).then_txRewind.then_stData hp

theorem then_stEnd (h : EventStep l s t) : EventStep l s (stEnd t) :=
  (h.then_txRelease.then_setXfer _).then_finishCtl _ _ _

/-- The end of a slave reception closes the buffer with the sentinel, while there is room for it (R119). -/
theorem then_sentinelIfRoom (h : EventStep l s t) :
    EventStep l s (if t.rx.cursor < t.rx.capacity then rxSentinel t else t) := by
  split
  · exact h.then_rxSentinel
  · exact h

end EventStep

/-- The latch after the transition of a status code: only 0x18 and 0x20 set it (R36, R100, R101). -/
def latchAfter : Instr → AckLatch → AckLatch
  | .status18, _ => .positive
  | .status20, _ => .negative
  | _, l => l

/-- Every transition of HANDLER, while its event is pending. -/
theorem exec_eventStep {i : Instr} (hi : i.isCall = false) (hp : ctrlInt s.ctrl = true) :
    ∃ t, exec i s = .next t ∧ EventStep (latchAfter i s.ackLatch) s t := by
  have start := EventStep.refl s
  cases i with
  | status00 => exact ⟨_, rfl, start.then_failWith _⟩
  | status08 => exact ⟨_, rfl, start.then_startSent hp⟩
  | status10 => exact ⟨_, rfl, start.then_startSent hp⟩
  | status18 => exact ⟨_, rfl, (start.then_setLatch _).then_mtData hp⟩
  | status20 => exact ⟨_, rfl, (start.then_setLatch _).then_failWith _⟩
  | status28 => exact ⟨_, rfl, start.then_mtData hp⟩
  | status30 => exact ⟨_, rfl, start.then_failWith _⟩
  | status38 => exact ⟨_, rfl, (start.then_setError _).then_finishCtl _ _ _⟩
  | status40 => exact ⟨_, rfl, start.then_mrAck⟩
  | status48 => exact ⟨_, rfl, start.then_failWith _⟩
  | status50 => exact ⟨_, rfl, (start.then_rxAppend _).then_mrAck⟩
  | status58 => exact ⟨_, rfl, start.then_failWith _⟩
  | status60 => exact ⟨_, rfl, start.then_srAddressed⟩
  | status68 => exact ⟨_, rfl, start.then_srAddressed⟩
  | status70 => exact ⟨_, rfl, start.then_srAddressed⟩
  | status78 => exact ⟨_, rfl, start.then_srAddressed⟩
  | status80 => exact ⟨_, rfl, start.then_srData⟩
  | status88 => exact ⟨_, rfl, start.then_srNack⟩
  | status90 => exact ⟨_, rfl, start.then_srData⟩
  | status98 => exact ⟨_, rfl, start.then_srNack⟩
  | statusA0 => exact ⟨_, rfl, (start.then_sentinelIfRoom.then_setXfer _).then_finishCtl _ _ _⟩
  | statusA8 => exact ⟨_, rfl, start.then_stAddressed hp⟩
  | statusB0 => exact ⟨_, rfl, start.then_stAddressed hp⟩
  | statusB8 => exact ⟨_, rfl, start.then_stData hp⟩
  | statusC0 => exact ⟨_, rfl, start.then_stEnd⟩
  | statusC8 => exact ⟨_, rfl, start.then_stEnd⟩
  | statusD0 => exact ⟨_, rfl, start.then_emit _⟩
  | statusD8 => exact ⟨_, rfl, start.then_emit _⟩
  | statusE0 => exact ⟨_, rfl, start.then_emit _⟩
  | statusE8 => exact ⟨_, rfl, start.then_emit _⟩
  | statusF0 => exact ⟨_, rfl, start.then_emit _⟩
  | statusF8 => exact ⟨_, rfl, start.then_finish (ctrlKept_noInformation _)⟩
  | _ => cases hi

/-- `STATUS` never decodes to a call (R71). -/
theorem decodeStatus_isCall (b : Byte) : (decodeStatus b).isCall = false := by
  have key : ∀ f : StatusField, (decodeStatusField f).isCall = false := by decide
  exact key _

/-- HANDLER's step: none, or the transition of the status code (R93). -/
theorem handlerStep_cases (h : handlerStep s = .next t) :
    t = s ∨ EventStep (latchAfter (decodeStatus s.status) s.ackLatch) s t := by
  unfold handlerStep at h
  split at h
  · next hd =>
    have hp : ctrlInt s.ctrl = true := by simp_all [deliverable]
    obtain ⟨u, hu, k⟩ := exec_eventStep (decodeStatus_isCall s.status) hp
    cases hu.symm.trans h
    exact .inr k
  · cases h
    exact .inl rfl

/-- HANDLER keeps everything outside the event's reach, and the enables in `CTRL`. -/
theorem handlerStep_keeps (h : handlerStep s = .next t) :
    t.outsideEvent = s.outsideEvent ∧ CtrlKept s.ctrl t.ctrl := by
  rcases handlerStep_cases h with rfl | k
  · exact ⟨rfl, .refl _⟩
  · exact ⟨k.outside, k.ctrl⟩

/-! ### What a call of the foreground may do -/

/-- The state without what a call may write, `apply` and `discover` apart. -/
def State.outsideCall (s : State) : State :=
  { s with
    ctrl := 0x00#8, target := 0#7, tx := State.reset.tx, rx := State.reset.rx, xferActive := false
    faults := State.reset.faults, refused := false, debugOut := [], program := [], returns := [] }

/-- What a call may do to `s`: it keeps everything outside a call's reach, `last_error` and the latch among it, the enables
in `CTRL`, and the buffers' invariants. -/
structure CallStep (s t : State) : Prop where
  outside : t.outsideCall = s.outsideCall
  ctrl    : CtrlKept s.ctrl t.ctrl
  tx      : TxInv Config.txMax s.tx → TxInv Config.txMax t.tx
  rx      : RxInv Config.rxMax s.rx → RxInv Config.rxMax t.rx

/-- Whatever is read outside a call's reach reads as before. -/
theorem CallStep.kept {α : Type} (k : CallStep s t) (p : State → α) : p t.outsideCall = p s.outsideCall :=
  congrArg p k.outside

theorem CallStep.refl (s : State) : CallStep s s := ⟨rfl, .refl _, id, id⟩

/-- The outcome handed to the application is a call's own. -/
theorem CallStep.then_endCall {e : CallEnd} (h : CallStep s e.2) : CallStep s (endCall e) :=
  ⟨h.outside, h.ctrl, h.tx, h.rx⟩

theorem callStep_program (s : State) (p : List Byte) : CallStep s { s with program := p } :=
  ⟨rfl, .refl _, id, id⟩

theorem callStep_refusing (n : RefuseName) (s : State) : CallStep s (refusing n s).2 :=
  ⟨rfl, .refl _, id, id⟩

/-- Such a step keeps the invariant: the setup, `STATUS` and the scan are out of its reach. -/
theorem StateInv.of_callStep (h : StateInv s) (k : CallStep s t) : StateInv t :=
  h.of_sameDisc ⟨k.kept State.setup, k.ctrl, k.kept (·.status &&& 0x03#8), k.kept (·.status.getLsbD 2)⟩
    k.tx k.rx (k.kept State.disc)

/-! One lemma for each operation. -/

theorem callStep_setTargetOp (a : Nat) (s : State) : CallStep s (setTargetOp a s).2 := by
  obtain ⟨a', h⟩ := setTargetOp_state s a
  rw [h]
  exact ⟨rfl, .refl _, id, id⟩

theorem callStep_fillOp (bs : List Byte) (s : State) : CallStep s (fillOp Config.txMax bs s).2 := by
  unfold fillOp
  split_ifs with hrole hlen hactive
  · exact .refl s
  · exact callStep_refusing _ s
  · exact ⟨rfl, .refl _, fun i => i.fill (Nat.le_of_not_lt hlen), id⟩
  · exact ⟨rfl, .refl _, fun i => i.fill (Nat.le_of_not_lt hlen), id⟩

theorem callStep_setCapacityOp (n : Nat) (s : State) : CallStep s (setCapacityOp Config.rxMax n s).2 := by
  unfold setCapacityOp
  split_ifs with hn
  · exact callStep_refusing _ s
  · exact ⟨rfl, .refl _, id, fun i => i.withCapacity (Nat.le_of_not_lt hn)⟩

theorem callStep_startOp (s : State) : CallStep s (startOp s).2 := by
  unfold startOp
  split_ifs
  · exact .refl s
  · exact ⟨rfl, ctrlKept_ctl _ _ _ _, id, id⟩
  · exact ⟨rfl, ctrlKept_ctl _ _ _ _, id, id⟩
  · exact .refl s

theorem callStep_stopOp (s : State) : CallStep s (stopOp s).2 :=
  ⟨rfl, ctrlKept_ctl _ _ _ _, TxInv.release, id⟩

theorem callStep_getReceivedOp (s : State) : CallStep s (getReceivedOp s).2 := by
  unfold getReceivedOp
  split <;> exact .refl s

theorem callStep_flushReceiveOp (s : State) : CallStep s (flushReceiveOp s).2 := by
  unfold flushReceiveOp
  split
  · exact ⟨rfl, .refl _, id, RxInv.release⟩
  · exact .refl s

theorem callStep_flushTransmitOp (s : State) : CallStep s (flushTransmitOp s).2 := by
  unfold flushTransmitOp
  split
  · exact ⟨rfl, .refl _, TxInv.release, id⟩
  · exact .refl s

theorem callStep_reportOp (s : State) : CallStep s (reportOp s).2 := by
  unfold reportOp
  split
  · exact ⟨rfl, .refl _, id, id⟩
  · exact .refl s

/-! ### `apply` -/

/-- `apply_effects(c, d)` as one update (R83). -/
theorem applyEffects_eq (b : BusConfig) (d : Int) (s : State) :
    applyEffects b d s = { s with
      cfg := b
      direction := directionOfMode b.mode
      addr := ownAddressByte b.selfAddr b.gcEnable
      status := statusAfterWrite s.status (b.prescaler.zeroExtend 8)
      bitrate := if b.mode = .slave then s.bitrate else BitVec.ofInt 8 d
      ctrl := ctrlAfterWrite s.ctrl (applyCtrl b)
      gie := b.irqEnable
      busIdle := s.busIdle || !b.activate } := by
  unfold applyEffects applyBitrate
  dsimp only
  split <;> rfl

/-- A control word that requests nothing holds `EN` and `IE` in their places (R66). -/
theorem ctrlWord_enables : ∀ ea en ie : Bool,
    (ctrlWord false ea false false en ie).getLsbD 2 = en ∧ (ctrlWord false ea false false en ie).getLsbD 0 = ie := by
  decide

/-- The prescaler of a configuration reads back from `STATUS` (R83), whose reserved bit stays (R23). -/
theorem statusAfterWrite_prescaler (st : Byte) (p : BitVec 2) :
    statusAfterWrite st (p.zeroExtend 8) &&& 0x03#8 = p.zeroExtend 8 ∧
      (statusAfterWrite st (p.zeroExtend 8)).getLsbD 2 = st.getLsbD 2 := by
  revert st p
  decide +kernel

/-- A divisor that fits `BITRATE` reads back from it (R83). -/
theorem toNat_ofInt_of_byte {d : Int} (h : 0 ≤ d ∧ d ≤ 255) : ((BitVec.ofInt 8 d).toNat : Int) = d := by
  rw [BitVec.toNat_ofInt]
  omega

/-- A configuration that `apply` accepts is one of which the invariant speaks, and the divisor is its own (R82). -/
theorem configOk_of_accept {f : Nat} {c : ConfigArg} {b : BusConfig} {d : Int} (h : checkApply f c = .accept b d) :
    ConfigOk f b ∧ d = divisor f b.speed b.prescaler.toNat := by
  obtain ⟨hps, hself, hself', hspeed, hspeed', rfl, hdiv, m, -, rfl⟩ := checkApply_accept h
  have hp : (configOfArg c m).prescaler.toNat = c.prescaler :=
    (BitVec.toNat_ofNat _ _).trans (Nat.mod_eq_of_lt (by omega))
  have hs : (configOfArg c m).selfAddr.toNat = c.selfAddr :=
    (BitVec.toNat_ofNat _ _).trans (Nat.mod_eq_of_lt (by omega))
  refine ⟨⟨fun h0 => ?_, ⟨hspeed, hspeed'⟩, ?_⟩, ?_⟩
  · rw [h0] at hs
    simp at hs
    omega
  · rw [hp]
    exact hdiv
  · rw [hp]
    rfl

/-- An accepted `apply` with no scan in progress keeps the invariant (R83). -/
theorem StateInv.applyEffects (h : StateInv s) (hs : s.disc = none) {c : ConfigArg} {b : BusConfig} {d : Int}
    (ha : checkApply Config.fCpu c = .accept b d) : StateInv (applyEffects b d s) := by
  obtain ⟨hok, hd⟩ := configOk_of_accept ha
  obtain ⟨hen, hie⟩ := ctrlWord_enables b.ackEnable b.activate b.irqEnable
  obtain ⟨hps, hst⟩ := statusAfterWrite_prescaler s.status b.prescaler
  rw [applyEffects_eq]
  refine ⟨h.tx, h.rx, ⟨?_, ?_, rfl, hps, .inr ⟨hok, rfl⟩, fun hm => ?_⟩, ⟨?_, ?_, ?_, h.reserved.mask⟩, ?_⟩
  · exact (ctrlEn_ctrlAfterWrite _ _).trans hen
  · exact (ctrlIe_ctrlAfterWrite _ _).trans hie
  · obtain ⟨hlow, hhigh⟩ := hok.divisor hm
    rw [if_neg hm, toNat_ofInt_of_byte (by omega), hd]
  · exact (bit1_ctrlAfterWrite _ _).trans h.reserved.ctrlBit1
  · exact (ctrlWc_ctrlAfterWrite _ _).trans h.reserved.collision
  · exact hst.trans h.reserved.statusBit2
  · simp [hs]

/-! ### Every call -/

/-- What a call leaves: a call's step, or the effects of an accepted `apply`, which are followed by the call's end or, in
`discover`, by the scan's start (R128, line 1). -/
inductive CallEffect (s t : State) : Prop
  | keeps (h : CallStep s t)
  | activates {c : ConfigArg} {b : BusConfig} {d : Int} (ha : checkApply Config.fCpu c = .accept b d)
      (h : CallStep (applyEffects b d s) t)
  | startsScan {d : Int} (ha : checkApply Config.fCpu defaultProfile.toArg = .accept defaultProfile d)
      (h : t = { applyEffects defaultProfile d s with disc := some discoveryStart })

theorem callEffect_applyOp (c : ConfigArg) (s : State) : CallEffect s (endCall (applyOp Config.fCpu c s)) := by
  rcases applyOp_cases s Config.fCpu c with ⟨n, -, h⟩ | ⟨r, -, h⟩ | ⟨b, d, ha, h⟩ <;> rw [h]
  · exact .keeps (callStep_refusing n s).then_endCall
  · exact .keeps (CallStep.refl s).then_endCall
  · exact .activates ha (CallStep.then_endCall (e := (_, _)) (.refl _))

/-- The configuration that `apply` accepts from the default profile is the default profile (R84). -/
theorem accept_defaultProfile {f : Nat} {b : BusConfig} {d : Int}
    (h : checkApply f defaultProfile.toArg = .accept b d) : b = defaultProfile := by
  obtain ⟨-, -, -, -, -, -, -, m, hm, rfl⟩ := checkApply_accept h
  cases hm
  rfl

/-- A configuration that the bus checks reject is not answered with `Ok` (R82). -/
theorem checkBus_reject {c : ConfigArg} {m : Mode} {d : Int} {r : Result} (h : checkBus c m d = .reject r) :
    r ≠ .ok := by
  rintro rfl
  unfold checkBus at h
  split_ifs at h <;> cases h

/-- A configuration that `apply` rejects is not answered with `Ok` (R82). -/
theorem checkApply_reject {f : Nat} {c : ConfigArg} {r : Result} (h : checkApply f c = .reject r) : r ≠ .ok := by
  unfold checkApply at h
  split at h
  · cases h
  · split at h
    · cases h
    · exact checkBus_reject h

theorem callEffect_discoverBegin (s : State) : CallEffect s (discoverBegin Config.fCpu s) := by
  unfold discoverBegin
  rcases applyOp_cases s Config.fCpu defaultProfile.toArg with ⟨n, -, h⟩ | ⟨r, hr, h⟩ | ⟨b, d, ha, h⟩ <;> rw [h]
  · exact .keeps (callStep_refusing n s).then_endCall
  · split
    · next heq =>
      cases heq
      exact absurd rfl (checkApply_reject hr)
    · exact .keeps (CallStep.refl s).then_endCall
  · obtain rfl := accept_defaultProfile ha
    exact .startsScan ha rfl

/-- Every call of the foreground. -/
theorem exec_callEffect {i : Instr} (hi : i.isCall = true) (s : State) :
    ∃ t, exec i s = .next t ∧ CallEffect s t := by
  cases i with
  | apply c => exact ⟨_, rfl, callEffect_applyOp c s⟩
  | defaultConfig => exact ⟨_, rfl, .keeps (CallStep.refl s).then_endCall⟩
  | setTargetAddress a => exact ⟨_, rfl, .keeps (callStep_setTargetOp a s).then_endCall⟩
  | fillTransmit bs => exact ⟨_, rfl, .keeps (callStep_fillOp bs s).then_endCall⟩
  | setReceiveCapacity n => exact ⟨_, rfl, .keeps (callStep_setCapacityOp n s).then_endCall⟩
  | start => exact ⟨_, rfl, .keeps (callStep_startOp s).then_endCall⟩
  | stop => exact ⟨_, rfl, .keeps (callStep_stopOp s).then_endCall⟩
  | getReceived => exact ⟨_, rfl, .keeps (callStep_getReceivedOp s).then_endCall⟩
  | flushReceive => exact ⟨_, rfl, .keeps (callStep_flushReceiveOp s).then_endCall⟩
  | flushTransmit => exact ⟨_, rfl, .keeps (callStep_flushTransmitOp s).then_endCall⟩
  | discover => exact ⟨_, rfl, callEffect_discoverBegin s⟩
  | report => exact ⟨_, rfl, .keeps (callStep_reportOp s).then_endCall⟩
  | _ => cases hi

/-! ### FG's steps -/

theorem decodeOne_isCall {call : Nat → Instr} (hcall : ∀ n, (call n).isCall = true) {bs rest : List Byte} {i : Instr}
    (h : decodeOne call bs = .ok (i, rest)) : i.isCall = true := by
  cases bs with
  | nil => cases h
  | cons a bs => cases h; exact hcall _

theorem decodeApply_isCall {bs rest : List Byte} {i : Instr} (h : decodeApply bs = .ok (i, rest)) :
    i.isCall = true := by
  unfold decodeApply at h
  split at h
  · cases h; rfl
  · cases h

theorem decodeFill_isCall {bs rest : List Byte} {i : Instr} (h : decodeFill bs = .ok (i, rest)) :
    i.isCall = true := by
  unfold decodeFill at h
  split at h
  · split at h
    · cases h
    · cases h; rfl
  · cases h

theorem decodeSelector_isCall {sel : Nat} {args rest : List Byte} {i : Instr}
    (h : decodeSelector sel args = .ok (i, rest)) : i.isCall = true := by
  unfold decodeSelector at h
  split at h
  case h_1 => exact decodeApply_isCall h
  case h_3 => exact decodeOne_isCall (fun _ => rfl) h
  case h_4 => exact decodeFill_isCall h
  case h_5 => exact decodeOne_isCall (fun _ => rfl) h
  all_goals cases h
  all_goals rfl

/-- Call bytes never decode to a status code (R75). -/
theorem decodeCall_isCall : ∀ {bs rest : List Byte} {i : Instr}, decodeCall bs = .ok (i, rest) → i.isCall = true
  | _ :: _, _, _, h => decodeSelector_isCall h

/-- FG's next call: with the call's bytes passed, what a call leaves. -/
theorem fgCall_callEffect (h : fgCall s = .next t) : ∃ p, CallEffect { s with program := p } t := by
  unfold fgCall at h
  split at h
  · cases h
    exact ⟨s.program, .keeps (.refl s)⟩
  · next sel args _ =>
    split at h
    · next i rest hdec =>
      obtain ⟨u, hu, k⟩ := exec_callEffect (decodeCall_isCall hdec) { s with program := rest }
      cases hu.symm.trans h
      exact ⟨rest, k⟩
    · cases h
      exact ⟨args, .keeps (callStep_refusing _ _).then_endCall⟩
    · cases h

/-- A call writes neither `last_error` nor the latch. -/
theorem CallEffect.marks (k : CallEffect s t) : t.lastError = s.lastError ∧ t.ackLatch = s.ackLatch := by
  cases k with
  | keeps h => exact ⟨h.kept State.lastError, h.kept State.ackLatch⟩
  | @activates c b d ha h =>
    rw [applyEffects_eq] at h
    exact ⟨h.kept State.lastError, h.kept State.ackLatch⟩
  | startsScan ha h =>
    rw [h, applyEffects_eq]
    exact ⟨rfl, rfl⟩

/-- A call made while no scan is in progress keeps the invariant. -/
theorem StateInv.of_callEffect (h : StateInv s) (hs : s.disc = none) (k : CallEffect s t) : StateInv t := by
  cases k with
  | keeps hk => exact h.of_callStep hk
  | activates ha hk => exact (h.applyEffects hs ha).of_callStep hk
  | startsScan ha ht =>
    rw [ht]
    exact (h.applyEffects hs ha).withDisc ⟨by rw [applyEffects_eq], by simp [discoveryStart]⟩

/-! ### The scan's lines -/

/-- The scan stands at a line that probes its address: 3, 4 or 5 (R128). -/
def Discovery.probing (d : Discovery) : Prop :=
  d.line = .setTarget ∨ d.line = .startProbe ∨ d.line = .poll

/-- The label `next` moves the scan to line 2 or 7 (R128). -/
theorem discoverNext_state (d : Discovery) (s : State) :
    ∃ e, discoverNext d s = { s with disc := some e } ∧ ¬e.probing := by
  unfold discoverNext
  split
  · exact ⟨_, rfl, by simp [Discovery.probing]⟩
  · exact ⟨_, rfl, by simp [Discovery.probing]⟩

/-- What a line of the scan may do: a call's step that moves the scan, and that comes to a probing line only with an
address it probed before or found, at line 2, not to be the self address; line 6, which also resets the latch; or line 7. -/
theorem discoverStep_cases (d : Discovery) (s : State) :
    (∃ u e, discoverStep d s = { u with disc := some e } ∧ CallStep s u ∧
      (e.probing → e.a = d.a ∧ (d.probing ∨ d.a.val ≠ s.cfg.selfAddr.toNat))) ∨
    (∃ l e, d.line = .record l ∧ discoverStep d s = { setLatch .unset s with disc := some e } ∧ ¬e.probing) ∨
    discoverStep d s = discoverCommit d s := by
  obtain ⟨line, a, seen, any⟩ := d
  cases line with
  | loopHead =>
    left
    simp only [discoverStep]
    split
    · obtain ⟨e, he, hp⟩ := discoverNext_state (discoverMark false ⟨.loopHead, a, seen, any⟩) s
      exact ⟨s, e, he, .refl s, fun h => absurd h hp⟩
    · next hself => exact ⟨s, _, rfl, .refl s, fun _ => ⟨rfl, .inr hself⟩⟩
  | setTarget => exact .inl ⟨_, _, rfl, callStep_setTargetOp _ s, fun _ => ⟨rfl, .inl (.inl rfl)⟩⟩
  | startProbe => exact .inl ⟨_, _, rfl, callStep_startOp s, fun _ => ⟨rfl, .inl (.inr (.inl rfl))⟩⟩
  | poll =>
    left
    simp only [discoverStep]
    split <;> exact ⟨s, _, rfl, .refl s, fun _ => ⟨rfl, .inl (.inr (.inr rfl))⟩⟩
  | record l =>
    obtain ⟨e, he, hp⟩ :=
      discoverNext_state (discoverMark (decide (l = .positive)) ⟨.record l, a, seen, any⟩) (setLatch .unset s)
    exact .inr (.inl ⟨l, e, rfl, he, hp⟩)
  | commit => exact .inr (.inr rfl)

/-- A line of the scan leaves `last_error` alone, and the latch too unless it is line 6, which resets it. -/
theorem discoverStep_marks (d : Discovery) (s : State) :
    (discoverStep d s).lastError = s.lastError ∧
      ((discoverStep d s).ackLatch = s.ackLatch ∨
        (discoverStep d s).ackLatch = .unset ∧ ∃ l, d.line = .record l) := by
  rcases discoverStep_cases d s with ⟨u, e, h, k, -⟩ | ⟨l, e, hl, h, -⟩ | h <;> rw [h]
  · exact ⟨k.kept State.lastError, .inl (k.kept State.ackLatch)⟩
  · exact ⟨rfl, .inr ⟨rfl, l, hl⟩⟩
  · exact ⟨rfl, .inl rfl⟩

/-- A line of the scan keeps the invariant. -/
theorem StateInv.discoverStep (h : StateInv s) {d : Discovery} (hd : s.disc = some d) :
    StateInv (discoverStep d s) := by
  obtain ⟨hprofile, hprobed⟩ := h.disc d hd
  rcases discoverStep_cases d s with ⟨u, e, he, k, hp⟩ | ⟨l, e, -, he, hp⟩ | he <;> rw [he]
  · refine (h.of_callStep k).withDisc ⟨(k.kept State.cfg).trans hprofile, fun hprobing => ?_⟩
    obtain ⟨ha, hold | hself⟩ := hp hprobing
    · rw [ha]
      exact hprobed hold
    · rw [ha]
      rwa [hprofile] at hself
  · exact (h.of_sameDisc (t := setLatch .unset s) (.of_eq rfl rfl rfl) id id rfl).withDisc
      ⟨hprofile, fun hprobing => absurd hprobing hp⟩
  · exact h.of_kept (.of_eq rfl rfl rfl) id id nofun

/-! ### Every step -/

/-- FG's step leaves `last_error` alone, and the latch too unless it is line 6 of `discover`. -/
theorem fgStep_marks (h : fgStep s = .next t) :
    t.lastError = s.lastError ∧
      (t.ackLatch = s.ackLatch ∨ t.ackLatch = .unset ∧ ∃ d l, s.disc = some d ∧ d.line = .record l) := by
  unfold fgStep at h
  split at h
  · next d hd =>
    cases h
    obtain ⟨herr, hlatch⟩ := discoverStep_marks d s
    exact ⟨herr, hlatch.imp_right fun ⟨hu, l, hl⟩ => ⟨hu, d, l, hd, hl⟩⟩
  · obtain ⟨p, k⟩ := fgCall_callEffect h
    exact ⟨k.marks.1, .inl k.marks.2⟩

/-- PERIPH writes neither `last_error` nor the latch. -/
theorem periphEvent_marks (p : PeriphModel) (f : StatusField) (d : Byte) (s : State) :
    (periphEvent p f d s).lastError = s.lastError ∧ (periphEvent p f d s).ackLatch = s.ackLatch := by
  rcases periphEvent_cases p f d s with h | ⟨b, h⟩ <;> rw [h] <;> exact ⟨rfl, rfl⟩

theorem periphStop_marks (s : State) :
    (periphStop s).lastError = s.lastError ∧ (periphStop s).ackLatch = s.ackLatch := by
  rcases periphStop_cases s with h | h <;> rw [h] <;> exact ⟨rfl, rfl⟩

theorem StateInv.fgStep (h : StateInv s) (ht : fgStep s = .next t) : StateInv t := by
  unfold Machine.fgStep at ht
  split at ht
  · next d hd =>
    cases ht
    exact h.discoverStep hd
  · next hd =>
    obtain ⟨p, k⟩ := fgCall_callEffect ht
    exact (h.of_callStep (callStep_program s p)).of_callEffect hd k

theorem StateInv.handlerStep (h : StateInv s) (ht : handlerStep s = .next t) : StateInv t := by
  rcases handlerStep_cases ht with rfl | k
  · exact h
  · exact h.of_eventStep k

/-- The step of every agent keeps the invariant. -/
theorem StateInv.runMove (h : StateInv s) {m : Move} (ht : runMove m s = .next t) : StateInv t := by
  cases m with
  | fg => exact h.fgStep ht
  | handler => exact h.handlerStep ht
  | event f d => cases ht; exact h.periphEvent _ f d
  | stopDone => cases ht; exact h.periphStop

/-- The status bytes of the two answers to an address with W (R65, R72). -/
theorem decodeStatus_addressAnswer : ∀ b : Byte,
    (decodeStatus b = .status18 → b &&& 0xF8#8 = 0x18#8) ∧ (decodeStatus b = .status20 → b &&& 0xF8#8 = 0x20#8) := by
  decide +kernel

/-- A transition that changes the latch is that of 0x18 or of 0x20. -/
theorem latchAfter_ne {i : Instr} {l : AckLatch} (h : latchAfter i l ≠ l) :
    (i = .status18 ∧ latchAfter i l = .positive) ∨ (i = .status20 ∧ latchAfter i l = .negative) := by
  unfold latchAfter at h ⊢
  split at h
  · exact .inl ⟨rfl, rfl⟩
  · exact .inr ⟨rfl, rfl⟩
  · exact absurd rfl h

/-- HANDLER changes the latch only at status 0x18 and 0x20. -/
theorem handlerStep_latch (h : handlerStep s = .next t) (hne : t.ackLatch ≠ s.ackLatch) :
    (s.status &&& 0xF8#8 = 0x18#8 ∧ t.ackLatch = .positive) ∨
      (s.status &&& 0xF8#8 = 0x20#8 ∧ t.ackLatch = .negative) := by
  rcases handlerStep_cases h with rfl | k
  · exact absurd rfl hne
  · rw [k.latch] at hne ⊢
    obtain ⟨h18, h20⟩ := decodeStatus_addressAnswer s.status
    exact (latchAfter_ne hne).imp (.imp_left h18) (.imp_left h20)

end Steps

/-! ### The statements about every step -/

/-- Settles O7: taking the move keeps the invariant, and so does the step of the agent it names. -/
theorem everyStepKeepsTheInvariant : Obligations.EveryStepKeepsTheInvariant := by
  intro s t h ht
  obtain ⟨m, u, hm⟩ := exists_moveIs s
  rw [hm.step_eq] at ht
  exact (h.of_moveIs hm).runMove ht

/-- Settles O52, agent by agent. -/
theorem onlyTheHandlerWritesTheLastError : Obligations.OnlyTheHandlerWritesTheLastError := by
  intro s t u m hmove hm hu
  rw [hmove.step_eq] at hu
  obtain ⟨q, n, rfl⟩ := hmove.eq_with
  cases m with
  | fg => exact (fgStep_marks hu).1
  | handler => exact absurd rfl hm
  | event f d => cases hu; exact (periphEvent_marks _ f d _).1
  | stopDone => cases hu; exact (periphStop_marks _).1

/-- Settles O54: everything it names but the two enables is out of a HANDLER transition's reach. -/
theorem handlerKeepsConfigurationAndEnables : Obligations.HandlerKeepsConfigurationAndEnables := by
  intro s t u hmove hu
  rw [hmove.step_eq] at hu
  obtain ⟨hout, hctrl⟩ := handlerStep_keeps hu
  obtain ⟨q, n, rfl⟩ := hmove.eq_with
  have kept {α : Type} (p : State → α) := congrArg p hout
  exact ⟨kept State.cfg, kept State.target, kept State.gie, hctrl.enable, hctrl.irq, kept State.addr,
    kept State.bitrate, kept State.amr, kept State.status, kept State.found, kept State.discoveredOk, kept State.disc,
    kept State.program, kept State.returns, kept State.faults, kept State.refused⟩

/-- Settles O55, agent by agent. -/
theorem onlyAddressAnswersSetTheLatch : Obligations.OnlyAddressAnswersSetTheLatch := by
  intro s t u m hmove hu hne
  rw [hmove.step_eq] at hu
  obtain ⟨q, n, rfl⟩ := hmove.eq_with
  cases m with
  | fg =>
    rcases (fgStep_marks hu).2 with heq | ⟨hunset, hline⟩
    · exact absurd heq hne
    · exact .inr (.inr ⟨rfl, hunset, hline⟩)
  | handler =>
    rcases handlerStep_latch hu hne with h | h
    · exact .inl ⟨rfl, h⟩
    · exact .inr (.inl ⟨rfl, h⟩)
  | event f d => cases hu; exact absurd (periphEvent_marks _ f d _).2 hne
  | stopDone => cases hu; exact absurd (periphStop_marks _).2 hne

end Sys2Proof.Machine

/-! The data space and the buffer arenas: where the registers stand, and which slots an instruction stores to. -/

namespace Sys2Proof.Machine

/-! ### The registers' addresses -/

/-- No register stands outside 0xB8 to 0xBD (R50). -/
theorem regAt_eq_none {a : Nat} (h : a < 0xB8 ∨ 0xBD < a) : regAt a = none := by
  unfold regAt
  split
  case h_7 => rfl
  all_goals omega

/-- Settles O18: each address of the table names its register, and any other none. -/
theorem registersStandAtTheirAddresses : Obligations.RegistersStandAtTheirAddresses := by
  intro s v a
  refine ⟨?_, ?_, ?_, ?_, ?_, ?_, ?none, rfl, rfl, rfl, rfl, rfl, rfl⟩
  case none =>
    intro h
    simp [State.memRead, State.memWrite, regAt_eq_none h]
  all_goals
    rintro rfl
    exact ⟨rfl, rfl⟩

/-! ### The operations that leave both arenas alone -/

section Arenas

variable {s t : State} {js : List Nat} {n j : Nat}

/-- The two arenas, receive and transmit. -/
def State.arenas (s : State) : Memory × Memory :=
  (s.rx.slots, s.tx.bytes)

theorem arenas_writeData (s : State) (v : Byte) : (s.writeData v).arenas = s.arenas := by
  simp [State.arenas]

theorem arenas_startSent (s : State) : (startSent s).arenas = s.arenas :=
  arenas_writeData s _

theorem arenas_loadNext (s : State) : (loadNext s).arenas = s.arenas :=
  arenas_writeData (txAdvance s) _

theorem arenas_mtData (s : State) : (mtData s).arenas = s.arenas := by
  cases hn : txHasNext s with
  | true => rw [mtData_of_next s hn]; exact arenas_loadNext s
  | false => rw [mtData_of_end s hn]; rfl

theorem arenas_stData (s : State) : (stData s).arenas = s.arenas := by
  cases hn : txHasNext s with
  | true => rw [stData_of_next s hn]; exact arenas_loadNext s
  | false => rw [stData_of_end s hn]; rfl

theorem arenas_stAddressed (s : State) : (stAddressed s).arenas = s.arenas :=
  arenas_stData { setXfer true (setDirection .transmit s) with tx := { s.tx with cursor := 0 } }

theorem arenas_applyOp (f : Nat) (c : ConfigArg) (s : State) : (applyOp f c s).2.arenas = s.arenas := by
  rcases applyOp_cases s f c with ⟨_, -, h⟩ | ⟨_, -, h⟩ | ⟨b, d, -, h⟩
  · rw [h]; rfl
  · rw [h]
  · rw [h, applyEffects_eq]; rfl

/-- `discover` begins with the effects of `apply`, whether the scan starts or the call ends (R128). -/
theorem arenas_discoverBegin (f : Nat) (s : State) : (discoverBegin f s).arenas = s.arenas := by
  have happly := arenas_applyOp f defaultProfile.toArg s
  unfold discoverBegin
  split
  · next t heq =>
    rw [heq] at happly
    exact happly
  · exact happly

theorem arenas_setTargetOp (a : Nat) (s : State) : (setTargetOp a s).2.arenas = s.arenas := by
  obtain ⟨t, h⟩ := setTargetOp_state s a
  rw [h]
  rfl

theorem arenas_setCapacityOp (rxMax n : Nat) (s : State) : (setCapacityOp rxMax n s).2.arenas = s.arenas := by
  unfold setCapacityOp
  split <;> rfl

theorem arenas_startOp (s : State) : (startOp s).2.arenas = s.arenas := by
  obtain ⟨c, x, f, h⟩ := startOp_state s
  rw [h]
  rfl

theorem arenas_getReceivedOp (s : State) : (getReceivedOp s).2.arenas = s.arenas := by
  unfold getReceivedOp
  split <;> rfl

/-- A flush releases the buffer and keeps the bytes in the arena (R59, R64). -/
theorem arenas_flushReceiveOp (s : State) : (flushReceiveOp s).2.arenas = s.arenas := by
  unfold flushReceiveOp
  split <;> rfl

theorem arenas_flushTransmitOp (s : State) : (flushTransmitOp s).2.arenas = s.arenas := by
  unfold flushTransmitOp
  split <;> rfl

theorem arenas_reportOp (s : State) : (reportOp s).2.arenas = s.arenas := by
  unfold reportOp
  split <;> rfl

/-! ### Where the others store -/

/-- A slot other than the one written reads as before. -/
theorem Memory.read_write_of_ne (p : Nat → Byte) (m : Memory) {i j : Nat} (h : j ≠ i) (b : Byte) :
    Memory.read p (m.write i b) j = Memory.read p m j := by
  rw [Memory.read_write, if_neg h.symm]

/-- The allocation writes no slot (R60). -/
@[simp] theorem rxAlloc_slots (rx : RxBuffer) : (rxAlloc rx).slots = rx.slots := by
  unfold rxAlloc
  split <;> rfl

/-- The sentinel goes to the cursor's slot of a live buffer (R63). -/
theorem rxSlot_rxSentinel (h : s.rx.live = true → j ≠ s.rx.cursor) : rxSlot (rxSentinel s) j = rxSlot s j := by
  unfold rxSentinel
  split
  · next hl => exact Memory.read_write_of_ne _ _ (h hl) _
  · rfl

/-- `mr_ack()` stores at most the sentinel, and that on a full live buffer only (R97). -/
theorem rxSlot_mrAck (h : s.rx.live = true → s.rx.capacity ≤ s.rx.cursor → j ≠ s.rx.cursor) :
    rxSlot (mrAck s) j = rxSlot s j := by
  rcases Nat.lt_or_ge s.rx.cursor s.rx.capacity with hc | hc
  · rw [mrAck_of_room s hc]
    rfl
  · rw [mrAck_of_full s hc]
    exact rxSlot_rxSentinel fun hl => h hl hc

theorem mrAck_tx (s : State) : (mrAck s).tx = s.tx := by
  unfold mrAck
  split <;> simp

/-- A byte appended below the capacity goes to the cursor's slot, the sentinel after the last one to the next (R62). -/
theorem mem_storedSlots_status80 : j ∈ storedSlots .status80 s ↔
    (rxAlloc s.rx).cursor < (rxAlloc s.rx).capacity ∧ (j = (rxAlloc s.rx).cursor ∨
      (rxAlloc s.rx).cursor + 1 = (rxAlloc s.rx).capacity ∧ j = (rxAlloc s.rx).cursor + 1) := by
  unfold storedSlots
  dsimp only
  split_ifs <;> simp <;> omega

/-- The master's data action also stores when the byte is dropped: the sentinel, to the cursor's slot (R97, R107). -/
theorem mem_storedSlots_status50 : j ∈ storedSlots .status50 s ↔
    j = (rxAlloc s.rx).cursor ∨
      (rxAlloc s.rx).cursor + 1 = (rxAlloc s.rx).capacity ∧ j = (rxAlloc s.rx).cursor + 1 := by
  unfold storedSlots
  dsimp only
  split_ifs <;> simp <;> omega

theorem rxSlot_rxAppend (b : Byte) (hj : j ∉ storedSlots .status80 s) : rxSlot (rxAppend b s) j = rxSlot s j := by
  rw [mem_storedSlots_status80] at hj
  unfold rxSlot
  rw [rxAppend_rx, ← rxAlloc_slots s.rx]
  rcases lt_trichotomy ((rxAlloc s.rx).cursor + 1) (rxAlloc s.rx).capacity with hlt | heq | hgt
  · rw [rxStore_keep b hlt]
    exact Memory.read_write_of_ne _ _ (by omega) _
  · rw [rxStore_fill b heq]
    exact (Memory.read_write_of_ne _ _ (by omega) _).trans (Memory.read_write_of_ne _ _ (by omega) _)
  · rw [rxStore_drop b (Nat.le_of_lt_succ hgt)]

/-- A buffer that is full after an append was just filled by it, or was full before (R62). -/
theorem cursor_rxStore_of_full {rx : RxBuffer} {b : Byte} (h : (rxStore b rx).capacity ≤ (rxStore b rx).cursor) :
    (rx.cursor + 1 = rx.capacity ∧ (rxStore b rx).cursor = rx.cursor + 1) ∨ (rxStore b rx).cursor = rx.cursor := by
  rcases lt_trichotomy (rx.cursor + 1) rx.capacity with hlt | heq | hgt
  · rw [rxStore_keep b hlt] at h
    exact absurd h (Nat.not_le.2 hlt)
  · rw [rxStore_fill b heq]
    exact .inl ⟨heq, rfl⟩
  · rw [rxStore_drop b (Nat.le_of_lt_succ hgt)]
    exact .inr rfl

/-- `fill_transmit` stores its bytes from slot 0 up, and nothing when it is refused or answers an error (R56, R86). -/
theorem read_fillOp (bs : List Byte) (s : State) (h : filledSlots (.fillTransmit bs) s ≤ j) :
    Memory.read Config.txPowerOn (fillOp Config.txMax bs s).2.tx.bytes j = Memory.read Config.txPowerOn s.tx.bytes j := by
  unfold fillOp
  split_ifs with hrole hlen
  · rfl
  · rfl
  all_goals
    have hj : ¬j < bs.length := by simpa [filledSlots, hrole, hlen] using h
    simp [returning, Memory.read_writeList, hj]

theorem fillOp_rx (txMax : Nat) (bs : List Byte) (s : State) : (fillOp txMax bs s).2.rx = s.rx := by
  unfold fillOp
  split_ifs <;> rfl

/-! ### Every instruction -/

/-- From `s` to `t` only the listed slots of the receive arena and the first `n` of the transmit arena may change. -/
structure ArenaFrame (js : List Nat) (n : Nat) (s t : State) : Prop where
  receive  : ∀ j, j ∉ js → rxSlot t j = rxSlot s j
  transmit : ∀ j, n ≤ j → Memory.read Config.txPowerOn t.tx.bytes j = Memory.read Config.txPowerOn s.tx.bytes j

theorem ArenaFrame.of_arenas_eq (h : t.arenas = s.arenas) : ArenaFrame js n s t := by
  obtain ⟨hrx, htx⟩ := Prod.mk.inj h
  exact ⟨fun j _ => by rw [rxSlot, hrx, rxSlot], fun j _ => by rw [htx]⟩

theorem ArenaFrame.of_tx_eq (htx : t.tx = s.tx) (hrx : ∀ j, j ∉ js → rxSlot t j = rxSlot s j) : ArenaFrame js n s t :=
  ⟨hrx, fun j _ => by rw [htx]⟩

theorem arenaFrame_status40 (s : State) : ArenaFrame (storedSlots .status40 s) n s (mrAck s) :=
  .of_tx_eq (mrAck_tx s) fun j hj => rxSlot_mrAck fun hl hc => by simpa [storedSlots, hl, hc] using hj

/-- The append's slots, and the sentinel's slot where the buffer is full after it. -/
theorem arenaFrame_status50 (s : State) :
    ArenaFrame (storedSlots .status50 s) n s (mrAck (rxAppend s.data s)) := by
  refine .of_tx_eq (mrAck_tx _) fun j hj => ?_
  rw [mem_storedSlots_status50] at hj
  have happend : j ∉ storedSlots .status80 s := by
    rw [mem_storedSlots_status80]
    omega
  refine (rxSlot_mrAck fun _ hfull => ?_).trans (rxSlot_rxAppend s.data happend)
  rw [rxAppend_rx] at hfull ⊢
  have hcursor := cursor_rxStore_of_full hfull
  omega

theorem arenaFrame_status80 (s : State) : ArenaFrame (storedSlots .status80 s) n s (srData s) :=
  .of_tx_eq rfl fun _ hj => rxSlot_rxAppend s.data hj

theorem arenaFrame_statusA0 (s : State) : ArenaFrame (storedSlots .statusA0 s) n s
    (finishCtl false false true (setXfer false (if s.rx.cursor < s.rx.capacity then rxSentinel s else s))) := by
  split
  · next hc =>
    exact .of_tx_eq (rxSentinel_tx s) fun j hj =>
      rxSlot_rxSentinel (s := s) fun hl => by simpa [storedSlots, hl, hc] using hj
  · exact .of_arenas_eq rfl

theorem arenaFrame_fillTransmit (bs : List Byte) (s : State) :
    ArenaFrame js (filledSlots (.fillTransmit bs) s) s (endCall (fillOp Config.txMax bs s)) :=
  ⟨fun j _ => by rw [rxSlot, endCall_rx, fillOp_rx, rxSlot], fun _ h => read_fillOp bs s h⟩

/-- Every instruction changes at most the slots it stores to. -/
theorem exec_arenaFrame (i : Instr) (s : State) :
    ∃ t, exec i s = .next t ∧ ArenaFrame (storedSlots i s) (filledSlots i s) s t := by
  cases i with
  | status00 => exact ⟨_, rfl, .of_arenas_eq rfl⟩
  | status08 => exact ⟨_, rfl, .of_arenas_eq (arenas_startSent s)⟩
  | status10 => exact ⟨_, rfl, .of_arenas_eq (arenas_startSent s)⟩
  | status18 => exact ⟨_, rfl, .of_arenas_eq (arenas_mtData (setLatch .positive s))⟩
  | status20 => exact ⟨_, rfl, .of_arenas_eq rfl⟩
  | status28 => exact ⟨_, rfl, .of_arenas_eq (arenas_mtData s)⟩
  | status30 => exact ⟨_, rfl, .of_arenas_eq rfl⟩
  | status38 => exact ⟨_, rfl, .of_arenas_eq rfl⟩
  | status40 => exact ⟨_, rfl, arenaFrame_status40 s⟩
  | status48 => exact ⟨_, rfl, .of_arenas_eq rfl⟩
  | status50 => exact ⟨_, rfl, arenaFrame_status50 s⟩
  | status58 => exact ⟨_, rfl, .of_arenas_eq rfl⟩
  | status60 => exact ⟨_, rfl, .of_arenas_eq rfl⟩
  | status68 => exact ⟨_, rfl, .of_arenas_eq rfl⟩
  | status70 => exact ⟨_, rfl, .of_arenas_eq rfl⟩
  | status78 => exact ⟨_, rfl, .of_arenas_eq rfl⟩
  | status80 => exact ⟨_, rfl, arenaFrame_status80 s⟩
  | status88 => exact ⟨_, rfl, .of_arenas_eq rfl⟩
  | status90 => exact ⟨_, rfl, arenaFrame_status80 s⟩
  | status98 => exact ⟨_, rfl, .of_arenas_eq rfl⟩
  | statusA0 => exact ⟨_, rfl, arenaFrame_statusA0 s⟩
  | statusA8 => exact ⟨_, rfl, .of_arenas_eq (arenas_stAddressed s)⟩
  | statusB0 => exact ⟨_, rfl, .of_arenas_eq (arenas_stAddressed s)⟩
  | statusB8 => exact ⟨_, rfl, .of_arenas_eq (arenas_stData s)⟩
  | statusC0 => exact ⟨_, rfl, .of_arenas_eq rfl⟩
  | statusC8 => exact ⟨_, rfl, .of_arenas_eq rfl⟩
  | statusD0 => exact ⟨_, rfl, .of_arenas_eq rfl⟩
  | statusD8 => exact ⟨_, rfl, .of_arenas_eq rfl⟩
  | statusE0 => exact ⟨_, rfl, .of_arenas_eq rfl⟩
  | statusE8 => exact ⟨_, rfl, .of_arenas_eq rfl⟩
  | statusF0 => exact ⟨_, rfl, .of_arenas_eq rfl⟩
  | statusF8 => exact ⟨_, rfl, .of_arenas_eq rfl⟩
  | apply c => exact ⟨_, rfl, .of_arenas_eq (arenas_applyOp _ c s)⟩
  | defaultConfig => exact ⟨_, rfl, .of_arenas_eq rfl⟩
  | setTargetAddress a => exact ⟨_, rfl, .of_arenas_eq (arenas_setTargetOp a s)⟩
  | fillTransmit bs => exact ⟨_, rfl, arenaFrame_fillTransmit bs s⟩
  | setReceiveCapacity n => exact ⟨_, rfl, .of_arenas_eq (arenas_setCapacityOp _ n s)⟩
  | start => exact ⟨_, rfl, .of_arenas_eq (arenas_startOp s)⟩
  | stop => exact ⟨_, rfl, .of_arenas_eq rfl⟩
  | getReceived => exact ⟨_, rfl, .of_arenas_eq (arenas_getReceivedOp s)⟩
  | flushReceive => exact ⟨_, rfl, .of_arenas_eq (arenas_flushReceiveOp s)⟩
  | flushTransmit => exact ⟨_, rfl, .of_arenas_eq (arenas_flushTransmitOp s)⟩
  | discover => exact ⟨_, rfl, .of_arenas_eq (arenas_discoverBegin _ s)⟩
  | report => exact ⟨_, rfl, .of_arenas_eq (arenas_reportOp s)⟩

end Arenas

/-- Settles O57, by the receive half of every instruction's frame. -/
theorem receiveArenaFrame : Obligations.ReceiveArenaFrame := by
  intro i s
  obtain ⟨t, ht, frame⟩ := exec_arenaFrame i s
  exact ⟨t, ht, frame.receive⟩

/-- Settles O58, by the transmit half of every instruction's frame. -/
theorem transmitArenaFrame : Obligations.TransmitArenaFrame := by
  intro i s
  obtain ⟨t, ht, frame⟩ := exec_arenaFrame i s
  exact ⟨t, ht, frame.transmit⟩

end Sys2Proof.Machine

/-! The two decoders against the encoder: what each call's bytes and each status byte read back as, and what FG's fetch
does with them. -/

namespace Sys2Proof

/-! ### The call bytes -/

/-- The configuration of an `apply` call reads back from its eight argument bytes (R75). -/
theorem configOfBytes_encoded {c : ConfigArg} (h : (Instr.apply c).wellFormed = true) :
    configOfBytes (flagsByte c.activate c.irqEnable c.ackEnable c.gcEnable) (byteOf c.selfAddr 0) (byteOf c.mode 0)
      (byteOf c.prescaler 0) (byteOf c.speed 3) (byteOf c.speed 2) (byteOf c.speed 1) (byteOf c.speed 0) = c := by
  simp only [Instr.wellFormed, Bool.and_eq_true, decide_eq_true_eq] at h
  obtain ⟨⟨⟨hself, hmode⟩, hps⟩, hspeed⟩ := h
  obtain ⟨hact, hirq, hack, hgc⟩ := flagsByte_bits c.activate c.irqEnable c.ackEnable c.gcEnable
  simp only [configOfBytes, hact, hirq, hack, hgc, byteOf_zero_toNat hself, byteOf_zero_toNat hmode,
    byteOf_zero_toNat hps, speedOfBytes_byteOf hspeed]

/-- An operand of one byte reads back, whatever follows it (R75). -/
theorem decodeOne_byteOf (call : Nat → Instr) {n : Nat} (h : n < 256) (rest : List Byte) :
    decodeOne call (byteOf n 0 :: rest) = .ok (call n, rest) := by
  rw [decodeOne, byteOf_zero_toNat h]

/-- The data bytes of `fill_transmit` read back: the length byte says where they end (R75). -/
theorem decodeFill_append {bs : List Byte} (h : bs.length < 256) (rest : List Byte) :
    decodeFill (byteOf bs.length 0 :: (bs ++ rest)) = .ok (.fillTransmit bs, rest) := by
  have hfits : ¬(bs ++ rest).length < bs.length := by simp
  rw [decodeFill, byteOf_zero_toNat h, if_neg hfits, List.take_left, List.drop_left]

/-- A call reads back from its bytes, whatever follows them (R75). -/
theorem decodeCall_encode_append {i : Instr} (hcall : i.isCall = true) (hwf : i.wellFormed = true) (rest : List Byte) :
    decodeCall (encode i ++ rest) = .ok (i, rest) := by
  cases i with
  | apply c => exact congrArg (fun c => (.ok (.apply c, rest) : CallDecoded)) (configOfBytes_encoded hwf)
  | setTargetAddress addr => exact decodeOne_byteOf .setTargetAddress (of_decide_eq_true hwf) rest
  | fillTransmit bs => exact decodeFill_append (of_decide_eq_true hwf) rest
  | setReceiveCapacity n => exact decodeOne_byteOf .setReceiveCapacity (of_decide_eq_true hwf) rest
  | defaultConfig | start | stop | getReceived | flushReceive | flushTransmit | discover | report => rfl
  | _ => cases hcall

/-- A selector that R75 does not list names no call (R73). -/
theorem decodeSelector_unknown {sel : Nat} (h : sel = 0 ∨ 12 < sel) (args : List Byte) :
    decodeSelector sel args = .error .unknownSelector := by
  unfold decodeSelector
  split
  case h_13 => rfl
  all_goals omega

/-! ### The status byte -/

/-- The mask of R65 keeps the status field and clears the three bits below it. -/
theorem and_statusMask (b : Byte) : b &&& 0xF8#8 = (b.extractLsb' 3 5 ++ 0#3 : BitVec 8) := by
  refine BitVec.eq_of_getLsbD_eq fun i hi => ?_
  rw [BitVec.getLsbD_append]
  interval_cases i <;> simp

/-- A status byte decodes by its field, whatever the bits below it (R65). -/
theorem decodeStatus_append (f : StatusField) (low : BitVec 3) :
    decodeStatus (f ++ low : BitVec 8) = decodeStatusField f := by
  rw [decodeStatus, BitVec.extractLsb'_append_eq_left]

/-- The transition of a field is encoded as the field times 8 (R72). -/
theorem encode_decodeStatusField : ∀ f : StatusField, encode (decodeStatusField f) = [(f ++ 0#3 : BitVec 8)] := by
  decide

/-- Each status code is the transition of the field its byte holds (R72). -/
theorem decodeStatusField_encode {i : Instr} (h : i.isCall = false) :
    decodeStatusField (((encode i).headD 0x00#8).extractLsb' 3 5) = i := by
  cases i with
  | apply | defaultConfig | setTargetAddress | fillTransmit | setReceiveCapacity | start | stop | getReceived
  | flushReceive | flushTransmit | discover | report => cases h
  | _ => rfl

end Sys2Proof

namespace Sys2Proof.Machine

/-! ### FG's fetch -/

section Fetch

variable {s t : State} {i : Instr} {rest args : List Byte} {sel : Byte}

/-- FG runs the call at the front of its program and passes its bytes (R75). -/
theorem fgCall_of_decode (h : decodeCall s.program = .ok (i, rest)) :
    fgCall s = exec i { s with program := rest } := by
  unfold fgCall
  split
  · next hp => rw [hp] at h; cases h
  · next hp => rw [← hp, h]

/-- FG refuses an unknown selector by name and passes its byte (R73, R136). -/
theorem fgCall_of_unknownSelector (hp : s.program = sel :: args)
    (h : decodeCall s.program = .error .unknownSelector) :
    fgCall s = .next (withRefusal .unknownSelector { s with program := args }) := by
  rw [hp] at h
  simp only [fgCall, hp, h]
  rfl

/-- FG stops at call bytes that end inside a call. -/
theorem fgCall_of_truncated (hp : s.program ≠ []) (h : decodeCall s.program = .error .truncated) :
    fgCall s = .fault .truncatedCall := by
  unfold fgCall
  split
  · next hnil => exact absurd hnil hp
  · next hcons => rw [← hcons, h]

/-- Every instruction has a next state in every state (R94, R132). -/
theorem exec_answers (i : Instr) (s : State) : ∃ t, exec i s = .next t := by
  obtain ⟨t, ht, -⟩ := exec_arenaFrame i s
  exact ⟨t, ht⟩

/-- FG's fetch answers a next state unless the program's bytes end inside a call. -/
theorem fgCall_answers (s : State) : (∃ t, fgCall s = .next t) ∨
    (fgCall s = .fault .truncatedCall ∧ decodeCall s.program = .error .truncated) := by
  cases hp : s.program with
  | nil => exact .inl ⟨s, by rw [fgCall, hp]⟩
  | cons sel args =>
    rw [← hp]
    match hdec : decodeCall s.program with
    | .ok (i, rest) =>
      rw [fgCall_of_decode hdec]
      exact .inl (exec_answers i _)
    | .error .unknownSelector => exact .inl ⟨_, fgCall_of_unknownSelector hp hdec⟩
    | .error .truncated => exact .inr ⟨fgCall_of_truncated (by simp [hp]) hdec, rfl⟩

/-- HANDLER always has a next state (R71, R93). -/
theorem handlerStep_answers (s : State) : ∃ t, handlerStep s = .next t := by
  unfold handlerStep
  split
  · exact exec_answers _ s
  · exact ⟨s, rfl⟩

/-- With no scan in progress FG's step is its fetch. -/
theorem fgStep_of_noScan (h : s.disc = none) : fgStep s = fgCall s := by
  rw [fgStep, h]

/-- FG's step answers a next state unless no scan is in progress and the program's bytes end inside a call. -/
theorem fgStep_answers (s : State) : (∃ t, fgStep s = .next t) ∨
    (fgStep s = .fault .truncatedCall ∧ s.disc = none ∧ decodeCall s.program = .error .truncated) := by
  cases hd : s.disc with
  | some d => exact .inl ⟨discoverStep d s, by rw [fgStep, hd]⟩
  | none =>
    rw [fgStep_of_noScan hd]
    exact (fgCall_answers s).imp_right fun ⟨hfault, htrunc⟩ => ⟨hfault, rfl, htrunc⟩

/-- An FG move with no scan in progress is FG's fetch. -/
theorem MoveIs.step_eq_fgCall (h : MoveIs s .fg t) (hd : s.disc = none) : step s = fgCall t := by
  rw [h.step_eq]
  obtain ⟨q, n, rfl⟩ := h.eq_with
  exact fgStep_of_noScan hd

/-- Taking a move leaves the program. -/
theorem MoveIs.program_eq {m : Move} (h : MoveIs s m t) : t.program = s.program := by
  obtain ⟨q, n, rfl⟩ := h.eq_with
  rfl

end Fetch

/-! ### The statements about encoding -/

/-- Settles O1, call by call from its operands' bytes. -/
theorem callEncodingRoundTrips : Obligations.CallEncodingRoundTrips :=
  fun _ rest hcall hwf => decodeCall_encode_append hcall hwf rest

/-- Settles O16: of the three agents' steps only FG's fetch can stop the machine. -/
theorem stepStopsOnlyOnATruncatedCall : Obligations.StepStopsOnlyOnATruncatedCall := by
  intro s
  obtain ⟨m, t, hm⟩ := exists_moveIs s
  rw [hm.step_eq]
  obtain ⟨q, n, rfl⟩ := hm.eq_with
  cases m with
  | fg => exact fgStep_answers { s with sched := q, tick := n }
  | handler => exact .inl (handlerStep_answers _)
  | event f d => exact .inl ⟨_, rfl⟩
  | stopDone => exact .inl ⟨_, rfl⟩

/-- Settles O2, by the status field: a byte is its field followed by three bits that the decoder does not read. -/
theorem statusDecodingIsTotalUnderTheMask : Obligations.StatusDecodingIsTotalUnderTheMask := by
  refine ⟨fun b => ⟨?_, decodeStatus_isCall b, ?_⟩, fun i hi => ?_⟩
  · rw [and_statusMask, decodeStatus_append, decodeStatus]
  · rw [and_statusMask, decodeStatus, encode_decodeStatusField]
  · obtain ⟨f, rfl⟩ : ∃ f, decodeStatusField f = i := ⟨_, decodeStatusField_encode hi⟩
    refine ⟨_, encode_decodeStatusField f, ?_, decodeStatus_append f 0#3⟩
    rw [and_statusMask, BitVec.extractLsb'_append_eq_left]

/-- Settles O3: the decoders run on the written-out bytes. -/
theorem wordsOfTheTablesDecode : Obligations.WordsOfTheTablesDecode := by
  unfold Obligations.WordsOfTheTablesDecode
  decide

/-- Settles O4, by FG's fetch of a selector that names no call. -/
theorem unknownSelectorIsRefusedByName : Obligations.UnknownSelectorIsRefusedByName := by
  intro s t sel args hsel hmove hdisc hprog
  have hp : t.program = sel :: args := hmove.program_eq.trans hprog
  rw [hmove.step_eq_fgCall hdisc]
  exact fgCall_of_unknownSelector hp (by rw [hp]; exact decodeSelector_unknown hsel args)

/-- Settles O11, by FG's fetch of a call that decodes. -/
theorem stepRunsTheDecodedCall : Obligations.StepRunsTheDecodedCall := by
  intro s t i rest hmove hdisc hdec _
  rw [hmove.step_eq_fgCall hdisc]
  exact fgCall_of_decode (by rwa [hmove.program_eq])

end Sys2Proof.Machine

/-! Bus configuration: the divisor, the checks of `apply` and what an accepted configuration leaves, the default profile,
and the target address (R79 to R85). -/

namespace Sys2Proof.Machine

/-! ### The divisor -/

/-- The divisor by rounding division: its denominator is positive (R79, R80). -/
theorem divisor_eq_ediv (f v p : Nat) : divisor f v p = (((f / v : Nat) : Int) - 16) / (2 * 4 ^ p : Nat) := by
  rw [divisor, Int.fdiv_eq_ediv_of_nonneg _ (by positivity)]
  norm_cast

/-- Settles O36: rounding division of an integer is the floor of the rational quotient. -/
theorem divisorIsTheFloorOfTheBitRateEquation : Obligations.DivisorIsTheFloorOfTheBitRateEquation := by
  intro f v p _
  rw [divisor_eq_ediv, ← Rat.floor_intCast_div_natCast]
  simp only [Int.cast_sub, Int.cast_natCast, Int.cast_ofNat, Nat.cast_mul, Nat.cast_pow, Nat.cast_ofNat]

/-! ### The checks of `apply` -/

/-- The mode of an operand that passed R82's check of its range. -/
def modeOfOperand (n : Nat) : Mode :=
  if n = 0 then .slave else if n = 1 then .masterTransmit else .masterReceive

theorem modeOfOperand_eq_slave_iff (n : Nat) : modeOfOperand n = .slave ↔ n = 0 := by
  unfold modeOfOperand
  split_ifs with h0 h1 <;> simp [h0]

theorem directionOfMode_modeOfOperand (n : Nat) :
    directionOfMode (modeOfOperand n) = if n = 0 then .unknown else if n = 1 then .transmit else .receive := by
  unfold modeOfOperand
  split_ifs <;> rfl

/-- The numbers of the three modes are those up to 2 (R30, D29). -/
theorem modeOfNat_eq (n : Nat) : modeOfNat n = if 2 < n then none else some (modeOfOperand n) := by
  match n with
  | 0 | 1 | 2 => rfl
  | n + 3 => rw [if_pos (by omega)]; rfl

theorem bitRateTooLow_iff (n : Nat) (d : Int) : bitRateTooLow (modeOfOperand n) d = true ↔ n ≠ 0 ∧ d < 10 := by
  rw [bitRateTooLow, Bool.and_eq_true, decide_eq_true_iff, decide_eq_true_iff, ne_eq, modeOfOperand_eq_slave_iff]
  rfl

theorem divisorOverflows_iff (n : Nat) (d : Int) : divisorOverflows (modeOfOperand n) d = true ↔ n ≠ 0 ∧ 255 < d := by
  simp [divisorOverflows, modeOfOperand_eq_slave_iff]

/-- The checks of `apply` as one chain, in R82's order. -/
theorem checkApply_eq (f : Nat) (c : ConfigArg) : checkApply f c =
    if 3 < c.prescaler then .refuse .prescalerRange
    else if 2 < c.mode then .refuse .modeRange
    else if c.selfAddr < 1 ∨ 127 < c.selfAddr then .reject .selfAddressOutOfRange
    else if c.speed = 0 then .refuse .speedZero
    else if c.mode ≠ 0 ∧ divisor f c.speed c.prescaler < 10 then .reject .bitRateTooLowForMaster
    else if 400000 < c.speed then .reject .speedUnsupported
    else if c.mode ≠ 0 ∧ 255 < divisor f c.speed c.prescaler then .refuse .divisorOverflow
    else .accept (configOfArg c (modeOfOperand c.mode)) (divisor f c.speed c.prescaler) := by
  unfold checkApply
  rw [modeOfNat_eq]
  by_cases hm : 2 < c.mode
  · simp only [if_pos hm]
  · simp only [if_neg hm, checkBus, bitRateTooLow_iff, divisorOverflows_iff, Config.speedMax]

/-- Which configurations `apply` accepts (R82). -/
theorem checkApply_accepts_iff (f : Nat) (c : ConfigArg) :
    (∃ b d, checkApply f c = .accept b d) ↔ c.prescaler ≤ 3 ∧ c.mode ≤ 2 ∧ (1 ≤ c.selfAddr ∧ c.selfAddr ≤ 127) ∧
      (0 < c.speed ∧ c.speed ≤ 400000) ∧
      (c.mode ≠ 0 → 10 ≤ divisor f c.speed c.prescaler ∧ divisor f c.speed c.prescaler ≤ 255) := by
  constructor
  · rintro ⟨b, d, h⟩
    rw [checkApply_eq] at h
    split_ifs at h
    omega
  · rintro ⟨hps, hmode, hself, hspeed, hdiv⟩
    rw [checkApply_eq, if_neg (by omega), if_neg (by omega), if_neg (by omega), if_neg (by omega), if_neg (by omega),
      if_neg (by omega), if_neg (by omega)]
    exact ⟨_, _, rfl⟩

/-! ### What `apply` leaves -/

/-- What a call of `apply` leaves once its checks have decided. -/
def afterCheck (s : State) : ApplyCheck → State
  | .refuse n => withRefusal n s
  | .reject r => withOutcome (.returned r) s
  | .accept b d => withOutcome (.returned .ok) (applyEffects b d s)

theorem endCall_applyOp (f : Nat) (c : ConfigArg) (s : State) :
    endCall (applyOp f c s) = afterCheck s (checkApply f c) := by
  rcases applyOp_cases s f c with ⟨n, hc, h⟩ | ⟨r, hc, h⟩ | ⟨b, d, hc, h⟩ <;> rw [h, hc] <;> rfl

/-- The own-address byte is the address followed by the general-call bit (R68). -/
theorem ownAddressByte_eq_append (a : BitVec 7) (gc : Bool) : ownAddressByte a gc = a ++ BitVec.ofBool gc := by
  revert a gc
  decide +kernel

/-- The word of an accepted `apply` written to `CTRL`: `INT` and the bits the block cannot write stay, the enables are the
configuration's, and the requests are cleared (R83). -/
theorem ctrlAfterWrite_applyCtrl (old : Byte) (b : BusConfig) :
    ctrlAfterWrite old (applyCtrl b) =
      (old &&& 0x8A#8) ||| bitAt b.ackEnable 6 ||| bitAt b.activate 2 ||| bitAt b.irqEnable 0 := by
  have word : ∀ ea en ie : Bool, (ctrlWord false ea false false en ie).getLsbD 7 = false ∧
      ctrlWord false ea false false en ie &&& 0x75#8 = bitAt ea 6 ||| bitAt en 2 ||| bitAt ie 0 := by decide
  obtain ⟨hint, hmask⟩ := word b.ackEnable b.activate b.irqEnable
  rw [ctrlAfterWrite, applyCtrl, hint, hmask, show (0x8A#8 : Byte) = 0x80#8 ||| 0x0A#8 from rfl, BitVec.and_or_distrib_left]
  simp only [Bool.false_eq_true, if_false]
  ac_rfl

/-- The prescaler written to `STATUS` takes the low two bits (R23, R83). -/
theorem statusAfterWrite_zeroExtend (old : Byte) (p : BitVec 2) :
    statusAfterWrite old (p.zeroExtend 8) = old.extractLsb' 2 6 ++ p := by
  rw [statusAfterWrite_eq_append, BitVec.zeroExtend, BitVec.extractLsb'_setWidth_of_le (by decide),
    BitVec.extractLsb'_eq_self]

/-- Settles O37: the chain of checks is the statement's, and the effects of an accepted configuration are its update. -/
theorem applyChecksInOrderThenActivates : Obligations.ApplyChecksInOrderThenActivates := by
  intro c s
  refine ⟨rfl, fun f => ?_⟩
  rw [endCall_applyOp, checkApply_eq]
  simp only [apply_ite (afterCheck s)]
  simp only [afterCheck, applyEffects_eq, configOfArg, modeOfOperand_eq_slave_iff,
    directionOfMode_modeOfOperand, ownAddressByte_eq_append, statusAfterWrite_zeroExtend, ctrlAfterWrite_applyCtrl]
  rfl

/-! ### The default profile -/

/-- `apply` answers `Ok` exactly to a configuration that its checks accept (R82). -/
theorem applyOp_ok_iff (f : Nat) (c : ConfigArg) (s : State) :
    (applyOp f c s).1 = .returned .ok ↔ ∃ b d, checkApply f c = .accept b d := by
  rcases applyOp_cases s f c with ⟨n, hc, h⟩ | ⟨r, hc, h⟩ | ⟨b, d, hc, h⟩
  · simp [h, hc]
  · simp [h, hc, checkApply_reject hc]
  · simp [h, hc]

/-- Settles O39: of R82's checks only the divisor's bounds depend on the clock, and 36 ≤ f / 100000 < 528 meets them. -/
theorem defaultProfileAppliesExactlyInItsClockRange : Obligations.DefaultProfileAppliesExactlyInItsClockRange := by
  intro f s
  have hdiv : divisor f 100000 0 = (((f / 100000 : Nat) : Int) - 16) / 2 := divisor_eq_ediv f 100000 0
  rw [applyOp_ok_iff, checkApply_accepts_iff]
  simp only [defaultProfile, BusConfig.toArg, modeNumber, BitVec.toNat_ofNat, hdiv]
  omega

/-- Settles O38: `default` is the profile, written out. -/
theorem defaultReturnsTheProfile : Obligations.DefaultReturnsTheProfile :=
  fun _ => rfl

/-! ### The target address -/

/-- Settles O40, branch by branch of the three checks. -/
theorem setTargetAddressChecksInOrder : Obligations.SetTargetAddressChecksInOrder := by
  intro a s
  have exec_eq : exec (.setTargetAddress a) s = .next (endCall (setTargetOp a s)) := rfl
  rw [exec_eq, setTargetOp]
  refine ⟨fun hout => ?_, fun hin hself => ?_, fun hin hself hslave => ?_, fun hin hself hmaster => ?_⟩
  · rw [if_pos hout]; rfl
  · rw [if_neg hin.not_gt, if_pos hself]; rfl
  · rw [if_neg hin.not_gt, if_neg hself, if_pos hslave]; rfl
  · rw [if_neg hin.not_gt, if_neg hself, if_neg hmaster]; rfl

end Sys2Proof.Machine

/-! Transfer lifecycle: filling, the receive capacity, starting, stopping, retrieving and flushing (R86 to R92). -/

namespace Sys2Proof.Machine

/-! ### The requests that `start` and `stop` write to `CTRL`, and the marks of a call during a transfer -/

theorem ackBit_eq_bitAt (s : State) : ackBit s = bitAt s.cfg.ackEnable 6 :=
  rfl

/-- Requesting the start with the configured `EA` retires the event and withdraws a stop (R66, R88). -/
theorem finishCtl_start (s : State) : finishCtl true false s.cfg.ackEnable s =
    { s with ctrl := (s.ctrl &&& 0x0F#8) ||| ackBit s ||| 0x20#8 } := by
  have hsta : bitAt true 5 = 0x20#8 := by decide
  have hsto : bitAt false 4 = 0x00#8 := rfl
  rw [finishCtl_eq, hsta, hsto, BitVec.or_zero, ackBit_eq_bitAt]

/-- Requesting the stop with the configured `EA` retires the event and withdraws a start (R66, R89). -/
theorem finishCtl_stop (s : State) : finishCtl false true s.cfg.ackEnable s =
    { s with ctrl := (s.ctrl &&& 0x0F#8) ||| ackBit s ||| 0x10#8 } := by
  have hsta : bitAt false 5 = 0x00#8 := rfl
  have hsto : bitAt true 4 = 0x10#8 := by decide
  rw [finishCtl_eq, hsta, hsto, BitVec.or_zero, ackBit_eq_bitAt]

/-- The mark of a fill is set exactly if a transfer is outstanding, and stays if it was set (R86, R137). -/
theorem markFill_of_xferActive (s : State) : (if s.xferActive then markFill s else s) =
    { s with faults := { s.faults with fillDuringTransfer := s.faults.fillDuringTransfer || s.xferActive } } := by
  by_cases h : s.xferActive = true
  · have hbit : (s.faults.fillDuringTransfer || s.xferActive) = true := by simp [h]
    rw [if_pos h, hbit, markFill]
  · have hbit : (s.faults.fillDuringTransfer || s.xferActive) = s.faults.fillDuringTransfer := by simp [h]
    rw [if_neg h, hbit]

/-- The mark of a start is set exactly if a transfer is outstanding, and stays if it was set (R88, R137). -/
theorem markStart_of_xferActive (s : State) : (if s.xferActive then markStart s else s) =
    { s with faults := { s.faults with startDuringTransfer := s.faults.startDuringTransfer || s.xferActive } } := by
  by_cases h : s.xferActive = true
  · have hbit : (s.faults.startDuringTransfer || s.xferActive) = true := by simp [h]
    rw [if_pos h, hbit, markStart]
  · have hbit : (s.faults.startDuringTransfer || s.xferActive) = s.faults.startDuringTransfer := by simp [h]
    rw [if_neg h, hbit]

/-! ### Filling, and the receive capacity -/

/-- Settles O41, branch by branch of the two checks; the new arena is the old one with the bytes written from slot 0. -/
theorem fillTransmitReplacesTheBuffer : Obligations.FillTransmitReplacesTheBuffer := by
  intro bs s
  have exec_eq : exec (.fillTransmit bs) s = .next (endCall (fillOp Config.txMax bs s)) := rfl
  rw [exec_eq, fillOp]
  refine ⟨fun hrole => ?_, fun hrole hlong => ?_,
    fun hrole hfits => ⟨Memory.writeList s.tx.bytes 0 bs, ?_, fun i => ?_⟩⟩
  · rw [if_pos hrole]; rfl
  · rw [if_neg hrole, if_pos hlong]; rfl
  · rw [if_neg hrole, if_neg hfits.not_gt, markFill_of_xferActive]; rfl
  · simp [Memory.read_writeList]

/-- Settles O42, on each side of the arena's bound. -/
theorem setReceiveCapacityRecordsTheCapacity : Obligations.SetReceiveCapacityRecordsTheCapacity := by
  intro n s
  have exec_eq : exec (.setReceiveCapacity n) s = .next (endCall (setCapacityOp Config.rxMax n s)) := rfl
  rw [exec_eq, setCapacityOp]
  refine ⟨fun hlarge => ?_, fun hfits => ?_⟩
  · rw [if_pos hlarge]; rfl
  · rw [if_neg hfits.not_gt]; rfl

/-! ### Starting and stopping -/

/-- `start` on an activated master marks first and then requests (R88). -/
theorem startOp_of_master {s : State} (hon : s.cfg.activate = true) (hmaster : s.cfg.mode ≠ .slave) :
    startOp s = returning .ok { s with
      ctrl := (s.ctrl &&& 0x0F#8) ||| ackBit s ||| 0x20#8
      xferActive := true
      faults := { s.faults with startDuringTransfer := s.faults.startDuringTransfer || s.xferActive } } := by
  rw [startOp, if_pos hon, if_neg hmaster]
  dsimp only
  rw [markStart_of_xferActive, finishCtl_start]
  rfl

/-- Settles O43, branch by branch of the two checks. -/
theorem startRequestsTheStartCondition : Obligations.StartRequestsTheStartCondition := by
  intro s
  have exec_eq : exec .start s = .next (endCall (startOp s)) := rfl
  rw [exec_eq]
  refine ⟨fun hoff => ?_, fun hon hslave => ?_, fun hon hmaster => ?_⟩
  · rw [startOp, hoff]; rfl
  · rw [startOp, if_pos hon, if_pos hslave]; rfl
  · rw [startOp_of_master hon hmaster]; rfl

/-- Settles O44: `stop` makes no check, and its three updates are the statement's. -/
theorem stopRequestsTheStopCondition : Obligations.StopRequestsTheStopCondition := by
  intro s
  have exec_eq : exec .stop s = .next (endCall (stopOp s)) := rfl
  rw [exec_eq, stopOp, finishCtl_stop]
  rfl

/-! ### Retrieving and flushing -/

@[simp] theorem rxContents_length (s : State) : (rxContents s).length = s.rx.cursor + 1 := by
  simp [rxContents]

@[simp] theorem rxContents_getElem (s : State) (i : Nat) (h : i < (rxContents s).length) :
    (rxContents s)[i] = rxSlot s i := by
  simp [rxContents]

/-- Settles O45: the two conditions are the two branches, and the bytes are the contents up to the terminal slot. -/
theorem getReceivedReturnsTheCompletedReceive : Obligations.GetReceivedReturnsTheCompletedReceive := by
  intro s
  have exec_eq : exec .getReceived s = .next (endCall (getReceivedOp s)) := rfl
  rw [exec_eq, getReceivedOp]
  refine ⟨fun hcursor hterminal =>
    ⟨rxContents s, ?_, rxContents_length s, rxContents_getElem s⟩, fun hopen => ?_⟩
  · rw [if_pos ⟨hcursor, hterminal⟩]; rfl
  · have hnot : ¬(0 < s.rx.cursor ∧ rxSlot s s.rx.cursor = Config.sentinel) := fun ⟨hcursor, hterminal⟩ =>
      hopen.elim hcursor.ne' (absurd hterminal)
    rw [if_neg hnot]; rfl

/-- Settles O46: each flush branches on whether its buffer is live. -/
theorem flushReleasesALiveBuffer : Obligations.FlushReleasesALiveBuffer := by
  intro s
  have receive_eq : exec .flushReceive s = .next (endCall (flushReceiveOp s)) := rfl
  have transmit_eq : exec .flushTransmit s = .next (endCall (flushTransmitOp s)) := rfl
  rw [receive_eq, transmit_eq, flushReceiveOp, flushTransmitOp]
  refine ⟨fun hlive => ?_, fun hdead => ?_, fun hlive => ?_, fun hdead => ?_⟩
  · rw [if_pos hlive]; rfl
  · rw [hdead]; rfl
  · rw [if_pos hlive]; rfl
  · rw [hdead]; rfl

end Sys2Proof.Machine

/-! The master side of the engine: when HANDLER's transition runs, what a request and a received or sent byte leave, and
the transitions of R98 to R108. -/

namespace Sys2Proof.Machine

/-! ### Who has a step -/

/-- HANDLER runs the transition of the current status code at a deliverable event (R93). -/
theorem handlerStep_of_deliverable {s : State} (h : deliverable s = true) :
    handlerStep s = exec (decodeStatus s.status) s := by
  rw [handlerStep, if_pos h]

/-- Without a deliverable event HANDLER has no step (R93). -/
theorem handlerStep_of_not_deliverable {s : State} (h : deliverable s = false) : handlerStep s = .next s := by
  rw [handlerStep, h]
  rfl

/-- While disabled, or while an event is pending, PERIPH has no event step (R144). -/
theorem periphEvent_of_no_event {m : PeriphModel} {f : StatusField} {d : Byte} {s : State}
    (h : ctrlEn s.ctrl = false ∨ ctrlInt s.ctrl = true) : periphEvent m f d s = s := by
  rcases h with hen | hint
  · simp [periphEvent, periphEnabled, hen]
  · exact periphEvent_pending hint

/-- Without a requested stop, or while disabled, PERIPH has no stop step (R145). -/
theorem periphStop_of_no_stop {s : State} (h : ctrlSto s.ctrl = false ∨ ctrlEn s.ctrl = false) :
    periphStop s = s := by
  have hguard : (ctrlSto s.ctrl && ctrlEn s.ctrl) = false := Bool.and_eq_false_iff.2 h
  rw [periphStop, hguard]
  rfl

/-- FG has no step once its program has ended (R153). -/
theorem fgCall_of_ended {s : State} (h : s.program = []) : fgCall s = .next s := by
  rw [fgCall, h]

/-- Settles O10: taking the move leaves the event deliverable and `STATUS` as it is. -/
theorem stepRunsTheDeliveredTransition : Obligations.StepRunsTheDeliveredTransition := by
  intro s t hmove hint hie hgie
  rw [hmove.step_eq]
  obtain ⟨q, n, rfl⟩ := hmove.eq_with
  exact handlerStep_of_deliverable (by simp [deliverable, hint, hie, hgie])

/-- Settles O12, agent by agent: taking the move leaves each guard as it is. -/
theorem agentWithoutAStepChangesNothing : Obligations.AgentWithoutAStepChangesNothing := by
  refine ⟨fun s t hmove hguard => ?_, fun s t f d hmove hguard => ?_, fun s t hmove hguard => ?_,
    fun s t hmove hdisc hprog => ?_⟩
  · rw [hmove.step_eq]
    obtain ⟨q, n, rfl⟩ := hmove.eq_with
    exact handlerStep_of_not_deliverable hguard
  · rw [hmove.step_eq]
    obtain ⟨q, n, rfl⟩ := hmove.eq_with
    exact congrArg Host.Outcome.next (periphEvent_of_no_event hguard)
  · rw [hmove.step_eq]
    obtain ⟨q, n, rfl⟩ := hmove.eq_with
    exact congrArg Host.Outcome.next (periphStop_of_no_stop hguard)
  · rw [hmove.step_eq_fgCall hdisc]
    exact fgCall_of_ended (hmove.program_eq.trans hprog)

section Transitions

variable (s : State)

/-! ### What retiring the event leaves in `CTRL` -/

theorem bitAt_false (i : Nat) : bitAt false i = 0x00#8 :=
  rfl

/-- `finish(ctl(0, 0, 1))` retires the event and asks to acknowledge the next byte (R66). -/
theorem finishCtl_ack : finishCtl false false true s = { s with ctrl := (s.ctrl &&& 0x0F#8) ||| 0x40#8 } := by
  have hea : bitAt true 6 = 0x40#8 := by decide
  simp only [finishCtl_eq, hea, bitAt_false, BitVec.or_zero]

/-- `finish(ctl(0, 0, 0))` retires the event and asks not to acknowledge the next byte (R66). -/
theorem finishCtl_nack : finishCtl false false false s = { s with ctrl := s.ctrl &&& 0x0F#8 } := by
  simp only [finishCtl_eq, bitAt_false, BitVec.or_zero]

/-- Retiring a pending event after a write of `DATA`, with no request and the configured `EA`, leaves `WC` clear
(R66). -/
theorem finishCtl_writeData_ackEnable (v : Byte) (h : ctrlInt s.ctrl = true) :
    finishCtl false false s.cfg.ackEnable (s.writeData v) =
      { s with data := v, ctrl := (s.ctrl &&& 0x07#8) ||| ackBit s } := by
  simp only [finishCtl_writeData s v _ _ _ h, bitAt_false, BitVec.or_zero, ackBit_eq_bitAt]

/-- `finish(ctl(…))` retires the event (R94). -/
theorem ctrlInt_finishCtl (sta sto ea : Bool) : ctrlInt (finishCtl sta sto ea s).ctrl = false :=
  ctrlInt_ctrlAfterWrite_ctl _ _ _ _

/-! ### START sent -/

/-- The SLA+R/W byte is the target followed by the bit that asks to read (R67). -/
theorem slaByte_eq_append (a : BitVec 7) (d : Direction) :
    slaByte a d = a ++ (if d = .receive then 1#1 else 0#1) := by
  cases d <;> exact ownAddressByte_eq_append a _

theorem startSent_eq (h : ctrlInt s.ctrl = true) : startSent s = { s with
    data := slaByte s.target s.direction
    ctrl := (s.ctrl &&& 0x07#8) ||| ackBit s } :=
  finishCtl_writeData_ackEnable s _ h

/-! ### Sending -/

/-- `mt_data()` with a byte remaining sends the byte at the cursor (R58, R96). -/
theorem mtData_of_byte (hint : ctrlInt s.ctrl = true) (hlive : s.tx.live = true) (hcur : s.tx.cursor < s.tx.len) :
    mtData s = { s with
      data := Memory.read Config.txPowerOn s.tx.bytes s.tx.cursor
      tx := { s.tx with cursor := s.tx.cursor + 1 }
      ctrl := (s.ctrl &&& 0x07#8) ||| ackBit s } := by
  rw [mtData_of_next s ((txHasNext_iff s).2 ⟨hlive, hcur⟩)]
  exact finishCtl_writeData_ackEnable (txAdvance s) _ hint

/-- `mt_data()` with no byte remaining releases the buffer and issues the stop (R59, R95, R96). -/
theorem mtData_of_no_byte (h : s.tx.live = false ∨ s.tx.len ≤ s.tx.cursor) : mtData s = { s with
    tx := { live := false, len := 0, cursor := 0, bytes := s.tx.bytes }
    xferActive := false
    ctrl := (s.ctrl &&& 0x0F#8) ||| ackBit s ||| 0x10#8 } := by
  have hend : txHasNext s = false := Bool.and_eq_false_iff.2 (h.imp_right fun hc => decide_eq_false hc.not_gt)
  rw [mtData_of_end s hend, issueStop_eq]
  rfl

/-! ### A failed transfer -/

/-- A class (c) error is recorded, the transfer ends and the stop is requested (R95, R135). -/
theorem failWith_eq (e : CommError) : failWith e s = { s with
    lastError := e
    xferActive := false
    ctrl := (s.ctrl &&& 0x0F#8) ||| ackBit s ||| 0x10#8 } :=
  issueStop_eq (setError e s)

/-! ### Receiving -/

/-- `mr_ack()` while capacity remains asks for the next byte (R97). -/
theorem mrAck_with_room (h : s.rx.cursor < s.rx.capacity) :
    mrAck s = { s with ctrl := (s.ctrl &&& 0x0F#8) ||| 0x40#8 } := by
  rw [mrAck_of_room s h, finishCtl_ack]

/-- `mr_ack()` on a full live buffer closes it with the sentinel and asks for no more (R63, R97). -/
theorem mrAck_full_live (h : s.rx.capacity ≤ s.rx.cursor) (hlive : s.rx.live = true) : mrAck s = { s with
    rx := { s.rx with slots := Memory.write s.rx.slots s.rx.cursor 0x00#8 }
    ctrl := s.ctrl &&& 0x0F#8 } := by
  rw [mrAck_of_full s h, finishCtl_nack, rxSentinel, if_pos hlive]
  rfl

/-- `mr_ack()` at capacity with no live buffer writes no sentinel (R63, R97). -/
theorem mrAck_full_dead (h : s.rx.capacity ≤ s.rx.cursor) (hdead : s.rx.live = false) :
    mrAck s = { s with ctrl := s.ctrl &&& 0x0F#8 } := by
  rw [mrAck_of_full s h, finishCtl_nack, rxSentinel, hdead]
  rfl

/-- The buffer once allocated: a live one keeps its cursor, a new one starts at 0 (R60). -/
theorem rxAlloc_eq {rx : RxBuffer} {c : Nat} (hc : c = if rx.live then rx.cursor else 0) :
    rxAlloc rx = { live := true, capacity := rx.capacity, cursor := c, slots := rx.slots } := by
  obtain ⟨live, capacity, cursor, slots⟩ := rx
  subst hc
  cases live <;> rfl

section Append

variable {s} {c : Nat} (b : Byte) (hc : c = if s.rx.live then s.rx.cursor else 0)
include hc

/-- `rx_append(b)` while two slots or more remain (R62). -/
theorem rxAppend_of_room (h : c + 1 < s.rx.capacity) : rxAppend b s = { s with
    rx := { live := true, capacity := s.rx.capacity, cursor := c + 1, slots := Memory.write s.rx.slots c b } } := by
  rw [rxAppend, rxAlloc_eq hc, rxStore_keep b h]

/-- `rx_append(b)` into the last slot (R62). -/
theorem rxAppend_of_last (h : c + 1 = s.rx.capacity) : rxAppend b s = { s with
    rx := {
      live := true, capacity := s.rx.capacity, cursor := c + 1
      slots := Memory.write (Memory.write s.rx.slots c b) (c + 1) 0x00#8 } } := by
  rw [rxAppend, rxAlloc_eq hc, rxStore_fill b h]
  rfl

/-- `rx_append(b)` at capacity allocates the buffer and drops the byte (R60, R62). -/
theorem rxAppend_of_full (h : s.rx.capacity ≤ c) : rxAppend b s = { s with
    rx := { live := true, capacity := s.rx.capacity, cursor := c, slots := s.rx.slots } } := by
  rw [rxAppend, rxAlloc_eq hc, rxStore_drop b h]

end Append

/-! ### The event after each sub-transition -/

theorem ctrlInt_mtData : ctrlInt (mtData s).ctrl = false := by
  cases hn : txHasNext s with
  | true => rw [mtData_of_next s hn]; exact ctrlInt_finishCtl _ _ _ _
  | false => rw [mtData_of_end s hn]; exact ctrlInt_finishCtl _ _ _ _

theorem ctrlInt_mrAck : ctrlInt (mrAck s).ctrl = false := by
  rcases Nat.lt_or_ge s.rx.cursor s.rx.capacity with hc | hc
  · rw [mrAck_of_room s hc]; exact ctrlInt_finishCtl _ _ _ _
  · rw [mrAck_of_full s hc]; exact ctrlInt_finishCtl _ _ _ _

theorem ctrlInt_stData : ctrlInt (stData s).ctrl = false := by
  cases hn : txHasNext s with
  | true => rw [stData_of_next s hn]; exact ctrlInt_finishCtl _ _ _ _
  | false => rw [stData_of_end s hn]; exact ctrlInt_finishCtl _ _ _ _

/-- The word that status 0xF8 writes has bit 7 set (R19, R126). -/
theorem ctrlInt_noInformation (c : Byte) : ctrlInt (ctrlAfterWrite c ((c &&& 0x7F#8) ||| 0x80#8)) = false := by
  rw [ctrlInt_ctrlAfterWrite]
  simp

end Transitions

/-! ### The statements about the transitions -/

/-- Settles O19: both codes run the start-sent action, which writes the SLA+R/W byte. -/
theorem startSentLoadsTheAddressByte : Obligations.StartSentLoadsTheAddressByte := by
  intro s i hi hint
  have exec_eq : exec i s = .next (startSent s) := by
    rcases List.mem_pair.1 hi with rfl | rfl <;> rfl
  rw [exec_eq, startSent_eq s hint, slaByte_eq_append]

/-- Settles O20: 0x18 sets the latch and then runs `mt_data()`, which does not read it. -/
theorem masterTransmitAddressAck : Obligations.MasterTransmitAddressAck := fun s =>
  ⟨fun hint hlive hcur => congrArg Host.Outcome.next (mtData_of_byte (setLatch .positive s) hint hlive hcur),
    fun hend => congrArg Host.Outcome.next (mtData_of_no_byte (setLatch .positive s) hend)⟩

/-- Settles O21: 0x28 runs `mt_data()`. -/
theorem masterTransmitDataAck : Obligations.MasterTransmitDataAck := fun s =>
  ⟨fun hint hlive hcur => congrArg Host.Outcome.next (mtData_of_byte s hint hlive hcur),
    fun hend => congrArg Host.Outcome.next (mtData_of_no_byte s hend)⟩

/-- Settles O22: 0x20 sets the latch and then fails with its error. -/
theorem masterTransmitAddressNack : Obligations.MasterTransmitAddressNack :=
  fun s => congrArg Host.Outcome.next (failWith_eq (setLatch .negative s) .addressNotAcknowledged)

/-- Settles O23: each of the four codes fails with its error. -/
theorem busProtocolErrorsEndInAStop : Obligations.BusProtocolErrorsEndInAStop := by
  intro s i e hi
  have exec_eq : exec i s = .next (failWith e s) := by
    simp only [List.mem_cons, Prod.mk.injEq, List.not_mem_nil, or_false] at hi
    rcases hi with ⟨rfl, rfl⟩ | ⟨rfl, rfl⟩ | ⟨rfl, rfl⟩ | ⟨rfl, rfl⟩ <;> rfl
  rw [exec_eq, failWith_eq]

/-- Settles O24: 0x38 records the error and requests the start. -/
theorem arbitrationLossRequestsTheStartAgain : Obligations.ArbitrationLossRequestsTheStartAgain :=
  fun s => congrArg Host.Outcome.next (finishCtl_start (setError .arbitrationLost s))

/-- Settles O25: 0x40 runs `mr_ack()`. -/
theorem masterReceiveAddressAck : Obligations.MasterReceiveAddressAck := fun s =>
  ⟨fun hroom => congrArg Host.Outcome.next (mrAck_with_room s hroom),
    fun hfull hlive => congrArg Host.Outcome.next (mrAck_full_live s hfull hlive),
    fun hfull hdead => congrArg Host.Outcome.next (mrAck_full_dead s hfull hdead)⟩

/-- Settles O26: 0x50 appends the byte and runs `mr_ack()`, whose sentinel after the last byte is there already. -/
theorem masterReceiveDataAck : Obligations.MasterReceiveDataAck := by
  intro s c hc
  have exec_eq : exec .status50 s = .next (mrAck (rxAppend s.data s)) := rfl
  rw [exec_eq]
  refine ⟨fun hroom => ?_, fun hlast => ?_, fun hfull => ?_⟩
  · rw [rxAppend_of_room s.data hc hroom, mrAck_with_room _ hroom]
  · rw [rxAppend_of_last s.data hc hlast, mrAck_full_live _ hlast.ge rfl, Memory.write_write]
  · rw [rxAppend_of_full s.data hc hfull, mrAck_full_live _ hfull rfl]

/-- Settles O56: the last act of a mapped transition is a `finish`, and an unmapped one is an emission. -/
theorem mappedTransitionsRetireTheEvent : Obligations.MappedTransitionsRetireTheEvent := by
  intro i s hi
  cases i with
  | status00 | status08 | status10 | status20 | status30 | status38 | status48 | status58 | status60 | status68
  | status70 | status78 | status80 | status88 | status90 | status98 | statusA0 | statusC0 | statusC8 =>
    exact ⟨_, rfl, fun _ => ctrlInt_finishCtl _ _ _ _, nofun⟩
  | status18 | status28 => exact ⟨_, rfl, fun _ => ctrlInt_mtData _, nofun⟩
  | status40 | status50 => exact ⟨_, rfl, fun _ => ctrlInt_mrAck _, nofun⟩
  | statusA8 | statusB0 | statusB8 => exact ⟨_, rfl, fun _ => ctrlInt_stData _, nofun⟩
  | statusF8 => exact ⟨_, rfl, fun _ => ctrlInt_noInformation _, nofun⟩
  | statusD0 | statusD8 | statusE0 | statusE8 | statusF0 => exact ⟨_, rfl, nofun, fun _ => rfl⟩
  | _ => cases hi

end Sys2Proof.Machine

/-! The slave side of the engine: what each shared slave action leaves, and the transitions of R109 to R127. -/

namespace Sys2Proof.Machine

section SlaveActions

variable (s : State)

/-! ### Receiving -/

/-- `sr_addressed()` makes the block a receiver of the given capacity (R109). -/
theorem srAddressed_eq (rxMax : Nat) : srAddressed rxMax s = { s with
    direction := .receive
    rx := { s.rx with capacity := rxMax }
    xferActive := true
    ctrl := (s.ctrl &&& 0x0F#8) ||| 0x40#8 } := by
  rw [srAddressed, finishCtl_ack]
  rfl

/-- A received byte that leaves room behind it is acknowledged (R61, R115). -/
theorem srData_of_room (h : (rxAppend s.data s).rx.cursor < (rxAppend s.data s).rx.capacity) :
    srData s = { rxAppend s.data s with ctrl := (s.ctrl &&& 0x0F#8) ||| 0x40#8 } := by
  have hroom : rxFull (rxAppend s.data s).rx = false := decide_eq_false h.not_ge
  rw [srData, hroom]
  exact finishCtl_ack _

/-- A received byte that leaves the buffer full is the last one acknowledged (R61, R115). -/
theorem srData_of_full (h : (rxAppend s.data s).rx.capacity ≤ (rxAppend s.data s).rx.cursor) :
    srData s = { rxAppend s.data s with ctrl := s.ctrl &&& 0x0F#8 } := by
  have hfull : rxFull (rxAppend s.data s).rx = true := decide_eq_true h
  rw [srData, hfull]
  exact finishCtl_nack _

/-- The NACK action ends the transfer and stores nothing (R116). -/
theorem srNack_eq : srNack s = { s with xferActive := false, ctrl := s.ctrl &&& 0x0F#8 } :=
  finishCtl_nack (setXfer false s)

/-- `rx_sentinel()` writes the cursor's slot of a live buffer (R63). -/
theorem rxSentinel_of_live (h : s.rx.live = true) :
    rxSentinel s = { s with rx := { s.rx with slots := Memory.write s.rx.slots s.rx.cursor 0x00#8 } } := by
  rw [rxSentinel, if_pos h]
  rfl

/-- `rx_sentinel()` has no buffer to close when none is live (R63). -/
theorem rxSentinel_of_dead (h : s.rx.live = false) : rxSentinel s = s := by
  rw [rxSentinel, h]
  rfl

/-- The end of a slave reception writes no sentinel without a live buffer, or at capacity (R63, R119). -/
theorem sentinelIfRoom_eq_self (h : s.rx.live = false ∨ s.rx.capacity ≤ s.rx.cursor) :
    (if s.rx.cursor < s.rx.capacity then rxSentinel s else s) = s := by
  rcases h with hdead | hfull
  · rw [rxSentinel_of_dead s hdead, ite_self]
  · rw [if_neg hfull.not_gt]

/-! ### Sending -/

/-- `st_data()` with a byte remaining sends the byte at the cursor and acknowledges (R58, R110). -/
theorem stData_of_byte (hint : ctrlInt s.ctrl = true) (hlive : s.tx.live = true) (hcur : s.tx.cursor < s.tx.len) :
    stData s = { s with
      data := Memory.read Config.txPowerOn s.tx.bytes s.tx.cursor
      tx := { s.tx with cursor := s.tx.cursor + 1 }
      ctrl := (s.ctrl &&& 0x07#8) ||| 0x40#8 } := by
  have hea : bitAt true 6 = 0x40#8 := by decide
  rw [stData_of_next s ((txHasNext_iff s).2 ⟨hlive, hcur⟩), loadNext, finishCtl_writeData (txAdvance s) _ _ _ _ hint,
    hea, bitAt_false, bitAt_false, BitVec.or_zero, BitVec.or_zero]
  rfl

/-- `st_data()` with no byte remaining leaves `DATA` alone and does not acknowledge (R110). -/
theorem stData_of_no_byte (h : s.tx.live = false ∨ s.tx.len ≤ s.tx.cursor) :
    stData s = { s with ctrl := s.ctrl &&& 0x0F#8 } := by
  have hend : txHasNext s = false := Bool.and_eq_false_iff.2 (h.imp_right fun hc => decide_eq_false hc.not_gt)
  rw [stData_of_end s hend, finishCtl_nack]

/-- A block addressed as a slave transmitter, with its buffer rewound, before it sends (R120). -/
def rewoundTransmitter : State :=
  { s with direction := .transmit, xferActive := true, tx := { s.tx with cursor := 0 } }

theorem stAddressed_eq : stAddressed s = stData (rewoundTransmitter s) :=
  rfl

/-- The end of a slave transmit releases the buffer, whatever is left in it, and acknowledges (R59, R123). -/
theorem stEnd_eq : stEnd s = { s with
    tx := { live := false, len := 0, cursor := 0, bytes := s.tx.bytes }
    xferActive := false
    ctrl := (s.ctrl &&& 0x0F#8) ||| 0x40#8 } :=
  finishCtl_ack (setXfer false (txRelease s))

end SlaveActions

/-! ### No information -/

/-- The word that status 0xF8 writes clears `INT` and rewrites every other bit with its value (R19, R126). -/
theorem ctrlAfterWrite_noInformation (c : Byte) :
    ctrlAfterWrite c ((c &&& 0x7F#8) ||| 0x80#8) = c &&& 0x7F#8 := by
  refine BitVec.eq_of_getLsbD_eq fun i hi => ?_
  interval_cases i <;> simp [ctrlAfterWrite]

/-! ### The statements about the slave transitions -/

/-- Settles O28: both codes append the byte and acknowledge by what room is left. -/
theorem slaveReceiveDataAck : Obligations.SlaveReceiveDataAck := by
  intro s i c hi hc
  have exec_eq : exec i s = .next (srData s) := by
    rcases List.mem_pair.1 hi with rfl | rfl <;> rfl
  rw [exec_eq]
  refine ⟨fun hroom => ?_, fun hlast => ?_, fun hfull => ?_⟩
  · have happend := rxAppend_of_room s.data hc hroom
    rw [srData_of_room s (by rw [happend]; exact hroom), happend]
  · have happend := rxAppend_of_last s.data hc hlast
    rw [srData_of_full s (by rw [happend]; exact hlast.ge), happend]
  · have happend := rxAppend_of_full s.data hc hfull
    rw [srData_of_full s (by rw [happend]; exact hfull), happend]

/-- Settles O30, by whether 0xA0 finds a live buffer with room for the sentinel. -/
theorem slaveStopOrRepeatedStart : Obligations.SlaveStopOrRepeatedStart := by
  intro s
  have exec_eq : exec .statusA0 s = .next (finishCtl false false true
      (setXfer false (if s.rx.cursor < s.rx.capacity then rxSentinel s else s))) := rfl
  rw [exec_eq, finishCtl_ack]
  refine ⟨fun hlive hroom => ?_, fun hnone => ?_⟩
  · rw [if_pos hroom, rxSentinel_of_live s hlive]
    rfl
  · rw [sentinelIfRoom_eq_self s hnone]
    rfl

/-- Settles O31: both codes rewind the buffer and run `st_data()`, which finds a byte when a live buffer is not
empty. -/
theorem slaveTransmitAddressed : Obligations.SlaveTransmitAddressed := by
  intro s i hi
  have exec_eq : exec i s = .next (stData (rewoundTransmitter s)) := by
    rcases List.mem_pair.1 hi with rfl | rfl <;> exact congrArg Host.Outcome.next (stAddressed_eq s)
  rw [exec_eq]
  exact ⟨fun hint hlive hlen => congrArg Host.Outcome.next (stData_of_byte (rewoundTransmitter s) hint hlive hlen),
    fun hnone => congrArg Host.Outcome.next
      (stData_of_no_byte (rewoundTransmitter s) (hnone.imp_right Nat.le_zero.2))⟩

/-- Settles O32: 0xB8 runs `st_data()`. -/
theorem slaveTransmitDataAck : Obligations.SlaveTransmitDataAck := fun s =>
  ⟨fun hint hlive hcur => congrArg Host.Outcome.next (stData_of_byte s hint hlive hcur),
    fun hend => congrArg Host.Outcome.next (stData_of_no_byte s hend)⟩

/-- Settles O27: the four codes run `sr_addressed()`, with the whole receive arena for capacity. -/
theorem slaveReceiveAddressed : Obligations.SlaveReceiveAddressed := by
  intro s i hi
  have exec_eq : exec i s = .next (srAddressed Config.rxMax s) := by
    simp only [List.mem_cons, List.not_mem_nil, or_false] at hi
    rcases hi with rfl | rfl | rfl | rfl <;> rfl
  rw [exec_eq, srAddressed_eq]

/-- Settles O29: both codes run the NACK action. -/
theorem slaveReceiveDataNack : Obligations.SlaveReceiveDataNack := by
  intro s i hi
  have exec_eq : exec i s = .next (srNack s) := by
    rcases List.mem_pair.1 hi with rfl | rfl <;> rfl
  rw [exec_eq, srNack_eq]

/-- Settles O33: both codes run the end of a slave transmit. -/
theorem slaveTransmitEnds : Obligations.SlaveTransmitEnds := by
  intro s i hi
  have exec_eq : exec i s = .next (stEnd s) := by
    rcases List.mem_pair.1 hi with rfl | rfl <;> rfl
  rw [exec_eq, stEnd_eq]

/-- Settles O34: 0xF8 only writes `CTRL`, and its word clears `INT` alone. -/
theorem noInformationOnlyClearsTheEvent : Obligations.NoInformationOnlyClearsTheEvent := by
  intro s
  have exec_eq : exec .statusF8 s =
      .next { s with ctrl := ctrlAfterWrite s.ctrl ((s.ctrl &&& 0x7F#8) ||| 0x80#8) } := rfl
  rw [exec_eq, ctrlAfterWrite_noInformation]

/-- Settles O35: each code's meaning is the emission, which delivery does not read. -/
theorem unmappedCodeOnlyEmits : Obligations.UnmappedCodeOnlyEmits := by
  intro s i b hi
  have exec_eq : exec i s = .next (unmapped b s) := by
    simp only [List.mem_cons, Prod.mk.injEq, List.not_mem_nil, or_false] at hi
    rcases hi with ⟨rfl, rfl⟩ | ⟨rfl, rfl⟩ | ⟨rfl, rfl⟩ | ⟨rfl, rfl⟩ | ⟨rfl, rfl⟩ <;> rfl
  exact ⟨exec_eq, rfl⟩

end Sys2Proof.Machine

/-! The discovery service: line 1 of `discover`, its numbered lines, a whole scan of a bus that answers every probe, and
`report` (R128 to R131). -/

namespace Sys2Proof.Machine

/-! ### Line 1 -/

/-- What the checks of `apply` decide about the default profile: of its clock, only the divisor depends (R82, R84). -/
theorem checkApply_defaultProfile (f : Nat) : checkApply f defaultProfile.toArg =
    if f < 3600000 then .reject .bitRateTooLowForMaster
    else if 52800000 ≤ f then .refuse .divisorOverflow
    else .accept defaultProfile (((f / 100000 - 16) / 2 : Nat) : Int) := by
  have hdiv : divisor f 100000 0 = (((f / 100000 : Nat) : Int) - 16) / 2 := divisor_eq_ediv f 100000 0
  have checks : checkApply f defaultProfile.toArg =
      if divisor f 100000 0 < 10 then .reject .bitRateTooLowForMaster
      else if 255 < divisor f 100000 0 then .refuse .divisorOverflow
      else .accept defaultProfile (divisor f 100000 0) := by
    rw [checkApply_eq]
    norm_num [defaultProfile, BusConfig.toArg, modeNumber, configOfArg, modeOfOperand]
  have hlow : divisor f 100000 0 < 10 ↔ f < 3600000 := by omega
  have hhigh : 255 < divisor f 100000 0 ↔ 52800000 ≤ f := by omega
  rw [checks]
  simp only [hlow, hhigh]
  split_ifs with h1 h2
  · rfl
  · rfl
  · exact congrArg _ (by omega)

/-- The effects of the default profile (R83, R84). -/
theorem applyEffects_defaultProfile (n : Nat) (s : State) : applyEffects defaultProfile n s = { s with
    cfg := defaultProfile
    direction := .transmit
    addr := 0xE0#8
    status := s.status &&& 0xFC#8
    bitrate := BitVec.ofNat 8 n
    ctrl := (s.ctrl &&& 0x8A#8) ||| 0x05#8
    gie := true } := by
  have haddr : ownAddressByte defaultProfile.selfAddr defaultProfile.gcEnable = 0xE0#8 := by decide
  have hstatus : statusAfterWrite s.status (defaultProfile.prescaler.zeroExtend 8) = s.status &&& 0xFC#8 :=
    BitVec.or_zero
  have hctrl : ctrlAfterWrite s.ctrl (applyCtrl defaultProfile) = (s.ctrl &&& 0x8A#8) ||| 0x05#8 := by
    rw [ctrlAfterWrite_applyCtrl, BitVec.or_assoc, BitVec.or_assoc]
    rfl
  have hidle : (s.busIdle || !defaultProfile.activate) = s.busIdle := Bool.or_false _
  rw [applyEffects_eq, haddr, hstatus, hctrl, hidle, BitVec.ofInt_natCast]
  rfl

/-- Settles O47: line 1 ends as the checks of `apply` decide about the default profile. -/
theorem discoverAppliesTheDefaultProfile : Obligations.DiscoverAppliesTheDefaultProfile := by
  refine fun s => ⟨rfl, fun f => ?_⟩
  rw [discoverBegin, applyOp, checkApply_defaultProfile]
  split_ifs with hlow hhigh
  · rfl
  · rfl
  · dsimp only
    rw [applyEffects_defaultProfile]
    rfl

/-! ### The numbered lines -/

/-- The foreground's step during a scan is the scan's next line (R128). -/
theorem MoveIs.step_eq_discoverStep {s t : State} {d : Discovery} (hmove : MoveIs s .fg t) (hd : s.disc = some d) :
    step s = .next (discoverStep d t) := by
  have ht : t.disc = some d := by
    obtain ⟨q, n, rfl⟩ := hmove.eq_with
    exact hd
  rw [hmove.step_eq, runMove, fgStep, ht]

/-- The scan's position once its address is noted present or absent: line 7 after address 127, else line 2 for the next
address (R128). -/
def Discovery.advance (present : Bool) (d : Discovery) : Discovery where
  line := if d.a.val = 127 then .commit else .loopHead
  a := if d.a.val = 127 then d.a else d.a + 1
  seen := d.seen.set d.a.val present
  any := d.any || present

theorem discoverNext_discoverMark (present : Bool) (d : Discovery) (s : State) :
    discoverNext (discoverMark present d) s = { s with disc := some (d.advance present) } := by
  by_cases h : d.a.val = 127
  · have hmark : (discoverMark present d).a.val = 127 := h
    rw [discoverNext, if_pos hmark, Discovery.advance, if_pos h, if_pos h]
    rfl
  · have hmark : ¬(discoverMark present d).a.val = 127 := h
    rw [discoverNext, if_neg hmark, Discovery.advance, if_neg h, if_neg h]
    rfl

/-- `set_target_address` of an address of the scan fails only at the self address or in the slave mode (R85). -/
theorem setTargetOp_state_of_scanned (a : Fin 128) (s : State) : (setTargetOp a.val s).2 = { s with
    target := if s.cfg.mode = .slave ∨ a.val = s.cfg.selfAddr.toNat then s.target else BitVec.ofNat 7 a.val } := by
  rw [setTargetOp, if_neg (by omega)]
  by_cases hself : a.val = s.cfg.selfAddr.toNat
  · rw [if_pos hself, if_pos (.inr hself)]; rfl
  · by_cases hslave : s.cfg.mode = .slave
    · rw [if_neg hself, if_pos hslave, if_pos (.inl hslave)]; rfl
    · rw [if_neg hself, if_neg hslave, if_neg (by simp [hself, hslave])]; rfl

/-- `start` without an activated master fails and changes nothing (R88). -/
theorem startOp_state_of_no_master {s : State} (h : s.cfg.activate = false ∨ s.cfg.mode = .slave) :
    (startOp s).2 = s := by
  rcases h with hoff | hslave
  · rw [startOp, hoff]
    rfl
  · rw [startOp, if_pos hslave]
    split <;> rfl

section Lines

variable {s : State} {d : Discovery}

/-- Line 2 at an address to probe. -/
theorem discoverStep_loopHead_of_other (h : d.line = .loopHead) (hother : d.a.val ≠ s.cfg.selfAddr.toNat) :
    discoverStep d s = { s with disc := some { d with line := .setTarget } } := by
  rw [discoverStep, h]
  exact if_neg hother

/-- Line 2 at the self address, which is noted absent without a probe. -/
theorem discoverStep_loopHead_of_self (h : d.line = .loopHead) (hself : d.a.val = s.cfg.selfAddr.toNat) :
    discoverStep d s = { s with disc := some (d.advance false) } := by
  rw [discoverStep, h]
  exact (if_pos hself).trans (discoverNext_discoverMark _ _ _)

/-- Line 3 sets the target, where it can. -/
theorem discoverStep_setTarget (h : d.line = .setTarget) : discoverStep d s = { s with
    target := if s.cfg.mode = .slave ∨ d.a.val = s.cfg.selfAddr.toNat then s.target else BitVec.ofNat 7 d.a.val
    disc := some { d with line := .startProbe } } := by
  rw [discoverStep, h, setTargetOp_state_of_scanned]

/-- Line 4 starts the probe of an activated master. -/
theorem discoverStep_startProbe_of_master (h : d.line = .startProbe) (hon : s.cfg.activate = true)
    (hmaster : s.cfg.mode ≠ .slave) : discoverStep d s = { s with
      ctrl := (s.ctrl &&& 0x0F#8) ||| ackBit s ||| 0x20#8
      xferActive := true
      faults := { s.faults with startDuringTransfer := s.faults.startDuringTransfer || s.xferActive }
      disc := some { d with line := .poll } } := by
  rw [discoverStep, h, startOp_of_master hon hmaster]
  rfl

/-- Line 4 without an activated master only passes. -/
theorem discoverStep_startProbe_of_no_master (h : d.line = .startProbe)
    (hfails : s.cfg.activate = false ∨ s.cfg.mode = .slave) :
    discoverStep d s = { s with disc := some { d with line := .poll } } := by
  rw [discoverStep, h, startOp_state_of_no_master hfails]

/-- A poll of line 5 stays there while the latch is unset, and otherwise passes its value on (R130). -/
theorem discoverStep_poll (h : d.line = .poll) : discoverStep d s = { s with
    disc := some { d with line := if s.ackLatch = .unset then .poll else .record s.ackLatch } } := by
  rw [discoverStep, h]
  cases hl : s.ackLatch <;> rfl

/-- Line 6 notes the answer that line 5 read, and resets the latch. -/
theorem discoverStep_record {l : AckLatch} (h : d.line = .record l) : discoverStep d s = { s with
    ackLatch := .unset
    disc := some (d.advance (decide (l = .positive))) } := by
  rw [discoverStep, h]
  exact discoverNext_discoverMark _ _ _

/-- Line 7 commits the scan's result. -/
theorem discoverStep_commit (h : d.line = .commit) : discoverStep d s =
    withOutcome (.returned (if d.any then .ok else .noDevicesFound)) { s with
      found := d.seen
      direction := .unknown
      discoveredOk := s.discoveredOk || d.any
      disc := none } := by
  rw [discoverStep, h]
  rfl

end Lines

/-- Settles O48, line by line. -/
theorem discoverRunsItsLinesInOrder : Obligations.DiscoverRunsItsLinesInOrder := by
  intro s t d hmove hd
  rw [hmove.step_eq_discoverStep hd]
  obtain ⟨q, n, rfl⟩ := hmove.eq_with
  refine ⟨fun hline hother => ?_, fun hline hself => ?_, fun hline => ?_, fun hline hon hmaster => ?_,
    fun hline hfails => ?_, fun hline hunset => ?_, fun hline hset => ?_, fun l hline => ?_⟩
  · exact congrArg Host.Outcome.next (discoverStep_loopHead_of_other hline hother)
  · rw [← Bool.or_false d.any]
    exact congrArg Host.Outcome.next (discoverStep_loopHead_of_self hline hself)
  · exact congrArg Host.Outcome.next (discoverStep_setTarget hline)
  · exact congrArg Host.Outcome.next (discoverStep_startProbe_of_master hline hon hmaster)
  · exact congrArg Host.Outcome.next (discoverStep_startProbe_of_no_master hline hfails)
  · rw [discoverStep_poll hline, if_pos hunset, ← hline, ← hd]
  · rw [discoverStep_poll hline, if_neg hset]
  · exact congrArg Host.Outcome.next (discoverStep_record hline)

/-- Settles O49: line 7 is the scan's end. -/
theorem discoverCommitsItsResult : Obligations.DiscoverCommitsItsResult := by
  intro s t d hmove hd hline
  rw [hmove.step_eq_discoverStep hd, discoverStep_commit hline]
  obtain ⟨q, n, rfl⟩ := hmove.eq_with
  rfl

/-! ### A whole scan -/

/-- From `s`, `n` steps lead to a state that meets `P`. -/
def Leads (n : Nat) (P : State → Prop) (s : State) : Prop :=
  ∃ t, runs n s = some t ∧ P t

theorem runs_add (m n : Nat) (s : State) : runs (m + n) s = (runs m s).bind (runs n) := by
  induction m generalizing s with
  | zero => rw [Nat.zero_add]; rfl
  | succ m ih =>
    rw [Nat.succ_add, runs, runs]
    cases step s with
    | next t => exact ih t
    | fault r => rfl
    | refused r => rfl

theorem Leads.of_step {P : State → Prop} {s t : State} (h : step s = .next t) (ht : P t) : Leads 1 P s :=
  ⟨t, by rw [runs, h]; rfl, ht⟩

theorem Leads.then {m n : Nat} {P Q : State → Prop} {s : State} (h : Leads m P s) (k : ∀ t, P t → Leads n Q t) :
    Leads (n + m) Q s := by
  obtain ⟨t, hm, hP⟩ := h
  obtain ⟨u, hn, hQ⟩ := k t hP
  exact ⟨u, by rw [Nat.add_comm, runs_add, hm]; exact hn, hQ⟩

/-- What a scan needs of the configuration: the default profile active, and its enables set. -/
structure ScanReady (s : State) : Prop where
  profile : s.cfg = defaultProfile
  global  : s.gie = true
  enable  : ctrlEn s.ctrl = true
  irq     : ctrlIe s.ctrl = true

/-- What of the state the probes of a scan leave as it is and the scan's statement reads, the rest as after reset. -/
def State.scanFrame (s : State) : State :=
  { State.reset with cfg := s.cfg, gie := s.gie, discoveredOk := s.discoveredOk, returns := s.returns }

/-- `t` is a state of the scan that `s` started: there is no byte to send, `INT` is `p`, the latch stands at `l` and the
scan at `d`, and the next moves are `q`. -/
structure ScanAt (s : State) (p : Bool) (l : AckLatch) (d : Discovery) (q : List Move) (t : State) : Prop where
  frame   : t.scanFrame = s.scanFrame
  ctrl    : CtrlKept s.ctrl t.ctrl
  empty   : t.tx.live = false
  pending : ctrlInt t.ctrl = p
  latch   : t.ackLatch = l
  disc    : t.disc = some d
  sched   : t.sched = q

/-! What each move of a probe does. -/

namespace ScanAt

variable {s t u : State} {P : State → Prop} {p : Bool} {l : AckLatch} {d : Discovery} {q : List Move}

/-- Whatever is read of the frame reads as at the scan's start. -/
theorem kept {α : Type} (h : ScanAt s p l d q t) (f : State → α) : f t.scanFrame = f s.scanFrame :=
  congrArg f h.frame

theorem ready (h : ScanAt s p l d q t) (hs : ScanReady s) : ScanReady t where
  profile := (h.kept State.cfg).trans hs.profile
  global := (h.kept State.gie).trans hs.global
  enable := h.ctrl.enable.trans hs.enable
  irq := h.ctrl.irq.trans hs.irq

/-- The next move is the schedule's first. -/
theorem leads_of_move {m : Move} (h : ScanAt s p l d (m :: q) t) (hrun : runMove m { t with sched := q } = .next u)
    (hu : P u) : Leads 1 P t :=
  .of_step ((MoveIs.step_eq (.inl ⟨q, h.sched, rfl⟩)).trans hrun) hu

/-- FG's move runs the scan's line. -/
theorem leads_of_line (h : ScanAt s p l d (.fg :: q) t) (hline : discoverStep d { t with sched := q } = u) (hu : P u) :
    Leads 1 P t :=
  .of_step ((MoveIs.step_eq_discoverStep (.inl ⟨q, h.sched, rfl⟩) h.disc).trans (congrArg _ hline)) hu

theorem loopHead_of_other (h : ScanAt s p l d (.fg :: q) t) (hs : ScanReady s) (hline : d.line = .loopHead)
    (hother : d.a.val ≠ 0x70) : Leads 1 (ScanAt s p l { d with line := .setTarget } q) t := by
  have hself : d.a.val ≠ t.cfg.selfAddr.toNat := by rwa [(h.ready hs).profile]
  exact h.leads_of_line (discoverStep_loopHead_of_other hline hself)
    ⟨h.frame, h.ctrl, h.empty, h.pending, h.latch, rfl, rfl⟩

theorem loopHead_of_self (h : ScanAt s p l d (.fg :: q) t) (hs : ScanReady s) (hline : d.line = .loopHead)
    (ha : d.a.val = 0x70) : Leads 1 (ScanAt s p l (d.advance false) q) t := by
  have hself : d.a.val = t.cfg.selfAddr.toNat := by rwa [(h.ready hs).profile]
  exact h.leads_of_line (discoverStep_loopHead_of_self hline hself)
    ⟨h.frame, h.ctrl, h.empty, h.pending, h.latch, rfl, rfl⟩

theorem setTarget (h : ScanAt s p l d (.fg :: q) t) (hline : d.line = .setTarget) :
    Leads 1 (ScanAt s p l { d with line := .startProbe } q) t :=
  h.leads_of_line (discoverStep_setTarget hline) ⟨h.frame, h.ctrl, h.empty, h.pending, h.latch, rfl, rfl⟩

theorem startProbe (h : ScanAt s p l d (.fg :: q) t) (hs : ScanReady s) (hline : d.line = .startProbe) :
    Leads 1 (ScanAt s false l { d with line := .poll } q) t := by
  have hcfg := (h.ready hs).profile
  have hon : t.cfg.activate = true := by rw [hcfg]; rfl
  have hmaster : t.cfg.mode ≠ .slave := by rw [hcfg]; decide
  have hctrl : ctrlAfterWrite t.ctrl (ctl t.ctrl true false t.cfg.ackEnable) =
      (t.ctrl &&& 0x0F#8) ||| ackBit t ||| 0x20#8 := congrArg State.ctrl (finishCtl_start t)
  refine h.leads_of_line (discoverStep_startProbe_of_master hline hon hmaster)
    ⟨h.frame, h.ctrl.trans ?_, h.empty, ?_, h.latch, rfl, rfl⟩
  · exact hctrl ▸ ctrlKept_ctl _ _ _ _
  · exact hctrl ▸ ctrlInt_ctrlAfterWrite_ctl _ _ _ _

theorem poll (h : ScanAt s p l d (.fg :: q) t) (hline : d.line = .poll) (hl : l ≠ .unset) :
    Leads 1 (ScanAt s p l { d with line := .record l } q) t := by
  have hset : t.ackLatch ≠ .unset := h.latch ▸ hl
  refine h.leads_of_line (discoverStep_poll hline) ⟨h.frame, h.ctrl, h.empty, h.pending, h.latch, ?_, rfl⟩
  dsimp only
  rw [if_neg hset, h.latch]

theorem record (h : ScanAt s p l d (.fg :: q) t) {k : AckLatch} (hline : d.line = .record k) :
    Leads 1 (ScanAt s p .unset (d.advance (decide (k = .positive))) q) t :=
  h.leads_of_line (discoverStep_record hline) ⟨h.frame, h.ctrl, h.empty, h.pending, rfl, rfl, rfl⟩

/-- PERIPH's stop step clears at most `STO`. -/
theorem stopDone (h : ScanAt s p l d (.stopDone :: q) t) : Leads 1 (ScanAt s p l d q) t := by
  refine h.leads_of_move rfl ?_
  rcases periphStop_cases { t with sched := q } with hstop | hstop <;> rw [hstop]
  · exact ⟨h.frame, h.ctrl, h.empty, h.pending, h.latch, h.disc, rfl⟩
  · exact ⟨h.frame, h.ctrl.trans (ctrlKept_clearSto _), h.empty, (ctrlInt_ctrlClearSto _).trans h.pending, h.latch,
      h.disc, rfl⟩

end ScanAt

/-- The free peripheral presents any code while it is enabled and no event is pending (R144). -/
theorem periphEvent_of_free {f : StatusField} {b : Byte} {s : State} (hen : ctrlEn s.ctrl = true)
    (hint : ctrlInt s.ctrl = false) : periphEvent .free f b s = { s with
      status := statusSetCode s.status f
      data := if byteReceived (codeOfField f) then b else s.data
      ctrl := ctrlSetInt s.ctrl
      busIdle := false } := by
  simp [periphEvent, periphEnabled, periphAdmits, hen, hint]

/-- HANDLER decodes the code that PERIPH presented (R65, R144). -/
theorem decodeStatus_statusSetCode (st : Byte) (f : StatusField) :
    decodeStatus (statusSetCode st f) = decodeStatusField f := by
  have hfield : ∀ (st : Byte) (f : StatusField), (statusSetCode st f).extractLsb' 3 5 = f := by decide +kernel
  rw [decodeStatus, hfield]

/-- The transitions of a probe without a live buffer leave none (R129). -/
theorem exec_probe_keeps_no_buffer {i : Instr} {s t : State} (hi : i ∈ [Instr.status08, .status18, .status20])
    (h : exec i s = .next t) (hdead : s.tx.live = false) : t.tx.live = false := by
  simp only [List.mem_cons, List.not_mem_nil, or_false] at hi
  rcases hi with rfl | rfl | rfl <;> cases h
  · simpa [startSent, loadSla] using hdead
  · rw [mtData_of_no_byte (setLatch .positive s) (.inl hdead)]
  · exact hdead

namespace ScanAt

variable {s t : State} {l : AckLatch} {d : Discovery} {q : List Move} {f : StatusField} {b : Byte}

/-- PERIPH presents a code. -/
theorem event (h : ScanAt s false l d (.event f b :: q) t) (hs : ScanReady s) :
    Leads 1 (fun u => ScanAt s true l d q u ∧ decodeStatus u.status = decodeStatusField f) t := by
  have hevent := periphEvent_of_free (f := f) (b := b) (s := { t with sched := q }) (h.ready hs).enable h.pending
  exact h.leads_of_move (congrArg Host.Outcome.next hevent)
    ⟨⟨h.frame, h.ctrl.trans (ctrlKept_setInt _), h.empty, ctrlInt_ctrlSetInt _, h.latch, h.disc, rfl⟩,
      decodeStatus_statusSetCode _ _⟩

/-- HANDLER runs the transition of a code of a probe: the latch takes the answer to the address. -/
theorem handler {i : Instr} (h : ScanAt s true l d (.handler :: q) t) (hs : ScanReady s)
    (hcode : decodeStatus t.status = i) (hi : i ∈ [Instr.status08, .status18, .status20]) :
    Leads 1 (ScanAt s false (latchAfter i l) d q) t := by
  have hready := h.ready hs
  have hmapped : i.isCall = false ∧ isUnmapped i = false := by
    simp only [List.mem_cons, List.not_mem_nil, or_false] at hi
    rcases hi with rfl | rfl | rfl <;> exact ⟨rfl, rfl⟩
  obtain ⟨u, hexec, hstep⟩ := exec_eventStep (s := { t with sched := q }) hmapped.1 h.pending
  have hdead : u.tx.live = false := exec_probe_keeps_no_buffer hi hexec h.empty
  have hdone : ctrlInt u.ctrl = false := by
    obtain ⟨v, hv, hint, -⟩ := mappedTransitionsRetireTheEvent i { t with sched := q } hmapped.1
    cases hexec.symm.trans hv
    exact hint hmapped.2
  have hrun : runMove .handler { t with sched := q } = .next u := by
    rw [runMove, handlerStep_of_deliverable, hcode, hexec]
    simp [deliverable, h.pending, hready.irq, hready.global]
  exact h.leads_of_move hrun ⟨(hstep.kept State.scanFrame).trans h.frame, h.ctrl.trans hstep.ctrl, hdead, hdone,
    h.latch ▸ hstep.latch, (hstep.kept State.disc).trans h.disc, hstep.kept State.sched⟩

/-- One probe of a bus that answers it: the address is noted as answered (R129). -/
theorem probe {answer : Bool} {x y : Byte} (h : ScanAt s false .unset d (probeMoves answer x y ++ q) t)
    (hs : ScanReady s) (hline : d.line = .loopHead) (hother : d.a.val ≠ 0x70) :
    Leads 10 (ScanAt s false .unset (d.advance answer) q) t := by
  have hcode : decodeStatusField (if answer then 0x03#5 else 0x04#5) ∈ [Instr.status08, .status18, .status20] := by
    cases answer <;> decide
  have hset : latchAfter (decodeStatusField (if answer then 0x03#5 else 0x04#5)) .unset ≠ .unset := by
    cases answer <;> decide
  have hanswer : decide (latchAfter (decodeStatusField (if answer then 0x03#5 else 0x04#5)) .unset = .positive) =
      answer := by
    cases answer <;> rfl
  refine (h.loopHead_of_other hs hline hother).then fun _ h3 => ?_
  refine (h3.setTarget rfl).then fun _ h4 => ?_
  refine (h4.startProbe hs rfl).then fun _ started => ?_
  refine (started.event hs).then fun _ ⟨sent, code⟩ => ?_
  refine (sent.handler hs code (by decide)).then fun _ loaded => ?_
  refine (loaded.event hs).then fun _ ⟨answered, code⟩ => ?_
  refine (answered.handler hs code hcode).then fun _ stopping => ?_
  refine stopping.stopDone.then fun _ h5 => ?_
  refine (h5.poll rfl hset).then fun _ h6 => ?_
  exact hanswer ▸ h6.record rfl

end ScanAt

/-- Address `a` is one that a scan of the bus finds: it acknowledges, and it is not the self address. -/
def acknowledges (answers : Nat → Bool) (a : Nat) : Bool :=
  answers a && decide (a ≠ 0x70)

/-- Where a scan of the bus stands when the first `n` addresses have been noted. -/
def scanPosition (answers : Nat → Bool) (n : Nat) : Discovery where
  line := if n < 128 then .loopHead else .commit
  a := ⟨min n 127, by omega⟩
  seen := Vector.ofFn fun b => decide (b.val < n) && acknowledges answers b
  any := (List.range n).any (acknowledges answers)

theorem scanPosition_zero (answers : Nat → Bool) : scanPosition answers 0 = discoveryStart := by
  have hseen : (scanPosition answers 0).seen = Vector.replicate 128 false := by
    ext b hb
    simp [scanPosition]
  rw [discoveryStart, ← hseen]
  rfl

theorem Discovery.eq_of_fields {d e : Discovery} (hline : d.line = e.line) (ha : d.a = e.a) (hseen : d.seen = e.seen)
    (hany : d.any = e.any) : d = e := by
  cases d
  cases e
  simp_all

/-- The scan stands at the first address that has not been noted. -/
theorem scanPosition_addr (answers : Nat → Bool) {n : Nat} (hn : n < 128) : (scanPosition answers n).a.val = n :=
  Nat.min_eq_left (Nat.le_of_lt_succ hn)

/-- Noting address `n` takes the scan on by one address. -/
theorem advance_scanPosition (answers : Nat → Bool) {n : Nat} (hn : n < 128) :
    (scanPosition answers n).advance (acknowledges answers n) = scanPosition answers (n + 1) := by
  have haddr := scanPosition_addr answers hn
  have hlast : n = 127 ∨ n < 127 := by omega
  refine Discovery.eq_of_fields ?line ?addr ?seen ?any
  case line =>
    rcases hlast with rfl | hlt
    · rfl
    · exact (if_neg (by omega)).trans (if_pos (by omega)).symm
  case addr =>
    rcases hlast with rfl | hlt
    · rfl
    · refine (if_neg (by omega)).trans (Fin.ext ?_)
      rw [scanPosition_addr answers (by omega), Fin.val_add, haddr]
      exact Nat.mod_eq_of_lt (by omega)
  case seen =>
    ext b hb
    simp only [Discovery.advance, scanPosition, Vector.getElem_set, Vector.getElem_ofFn]
    split_ifs with hnow
    · obtain rfl : n = b := by omega
      simp
    · have hlt : b < n ↔ b < n + 1 := by omega
      simp only [hlt]
  case any => simp [Discovery.advance, scanPosition, List.range_succ]

/-- A scan that has noted every address has found one iff one was there to find. -/
theorem scanPosition_any (answers : Nat → Bool) (n : Nat) :
    (scanPosition answers n).any = true ↔ ∃ a, a < n ∧ answers a = true ∧ a ≠ 0x70 := by
  simp [scanPosition, acknowledges]

namespace ScanAt

variable {answers : Nat → Bool} {draws : Nat → Byte} {s t : State} {q : List Move} {a : Nat}

/-- The bus serves address `a`: the self address in one foreground step, and any other in one probe. -/
theorem serve {x y : Byte} (hs : ScanReady s) (ha : a < 128) (h : ScanAt s false .unset (scanPosition answers a)
      ((if a = 0x70 then [.fg] else probeMoves (answers a) x y) ++ q) t) :
    Leads (if a = 0x70 then [.fg] else probeMoves (answers a) x y).length
      (ScanAt s false .unset (scanPosition answers (a + 1)) q) t := by
  have hline : (scanPosition answers a).line = .loopHead := if_pos ha
  have haddr := scanPosition_addr answers ha
  rw [← advance_scanPosition answers ha]
  by_cases hself : a = 0x70
  · have habsent : acknowledges answers a = false := by simp [acknowledges, hself]
    rw [if_pos hself] at h ⊢
    rw [habsent]
    exact h.loopHead_of_self hs hline (haddr.trans hself)
  · have hanswer : acknowledges answers a = answers a := by simp [acknowledges, hself]
    rw [if_neg hself] at h ⊢
    rw [hanswer]
    exact h.probe hs hline (haddr.trans_ne hself)

/-- The bus serves the addresses from `a` on, one after another. -/
theorem scan {n : Nat} (hs : ScanReady s) (hn : a + n = 128)
    (h : ScanAt s false .unset (scanPosition answers a) (scanMoves answers draws a n ++ q) t) :
    Leads (scanMoves answers draws a n).length (ScanAt s false .unset (scanPosition answers 128) q) t := by
  induction n generalizing a t with
  | zero =>
    obtain rfl : a = 128 := hn
    exact ⟨t, rfl, h⟩
  | succ n ih =>
    rw [scanMoves, List.append_assoc] at h
    rw [scanMoves, List.length_append, Nat.add_comm]
    exact (h.serve hs (by omega)).then fun _ hnext => ih (by omega) hnext

end ScanAt

/-- Settles O50: the bus serves every address, and line 7 commits what the scan has noted. -/
theorem discoverFindsExactlyTheAcknowledgers : Obligations.DiscoverFindsExactlyTheAcknowledgers := by
  intro answers draws s rest hdisc hcfg hgie hempty hlatch hint hen hie hsched
  have hready : ScanReady s := ⟨hcfg, hgie, hen, hie⟩
  have hstart : ScanAt s false .unset (scanPosition answers 0) (scanMoves answers draws 0 128 ++ .fg :: rest) s :=
    ⟨rfl, .refl _, hempty, hint, hlatch, scanPosition_zero answers ▸ hdisc, hsched⟩
  have hlen : s.sched.length - rest.length = 1 + (scanMoves answers draws 0 128).length := by
    rw [hsched, List.length_append, List.length_cons]
    omega
  have hany := scanPosition_any answers 128
  rw [hlen]
  refine (hstart.scan hready rfl).then fun t hend =>
    hend.leads_of_line (discoverStep_commit rfl)
      ⟨fun a => ?_, rfl, rfl, hend.latch, rfl, fun ⟨a, ha, hother, hack⟩ => ?_, fun hnone => ?_⟩
  · have hseen : (scanPosition answers 128).seen[a] = acknowledges answers a := by simp [scanPosition]
    exact hseen
  · have hreturns : t.returns = s.returns := hend.kept State.returns
    have hfound := hany.2 ⟨a, ha, hack, hother⟩
    simp [withOutcome, hfound, hreturns]
  · have hreturns : t.returns = s.returns := hend.kept State.returns
    have hok : t.discoveredOk = s.discoveredOk := hend.kept State.discoveredOk
    have hfound : (scanPosition answers 128).any = false := by
      rw [Bool.eq_false_iff, ne_eq, hany]
      rintro ⟨a, ha, hack, hother⟩
      exact Bool.noConfusion ((hnone a ha hother).symm.trans hack)
    simp [withOutcome, hfound, hreturns, hok]

/-! ### The report -/

/-- The rows of a grid with `k` cells each, one after another: cell `j` of row `i` stands at place `k * i + j`. -/
theorem getElem?_flatMap_range {α : Type} {k : Nat} {row : Nat → List α} (hrow : ∀ i, (row i).length = k) (n : Nat) :
    ((List.range n).flatMap row).length = k * n ∧
      ∀ i j, i < n → j < k → ((List.range n).flatMap row)[k * i + j]? = (row i)[j]? := by
  induction n with
  | zero => exact ⟨rfl, nofun⟩
  | succ n ih =>
    obtain ⟨hlen, hget⟩ := ih
    simp only [List.range_succ, List.flatMap_append, List.flatMap_singleton]
    refine ⟨by rw [List.length_append, hlen, hrow, Nat.mul_succ], fun i j hi hj => ?_⟩
    rcases Nat.lt_succ_iff_lt_or_eq.1 hi with hlt | rfl
    · have hplace : k * i + j < k * n := by
        calc k * i + j < k * (i + 1) := by rw [Nat.mul_succ]; omega
          _ ≤ k * n := Nat.mul_le_mul_left k hlt
      rw [List.getElem?_append_left (hlen ▸ hplace), hget i j hlt hj]
    · rw [List.getElem?_append_right (by omega), hlen, Nat.add_sub_cancel_left]

theorem reportRow_length (found : Vector Bool 128) (r : Nat) : (reportRow found r).length = 17 := by
  simp [reportRow]

/-- A cell of a row shows its address (R131). -/
theorem reportRow_getElem?_cell (found : Vector Bool 128) (r : Nat) {c : Nat} (hc : c < 16) :
    (reportRow found r)[c]? = some (.glyph (found.getD (16 * r + c) false)) := by
  rw [reportRow, List.getElem?_append_left (by simpa using hc)]
  simp [hc]

/-- A row ends with its row end (R131). -/
theorem reportRow_getElem?_end (found : Vector Bool 128) (r : Nat) : (reportRow found r)[16]? = some .rowEnd := by
  simp [reportRow]

/-- Settles O51: the emissions are the grid, whose rows are 17 emissions long. -/
theorem reportRendersTheGrid : Obligations.ReportRendersTheGrid := by
  intro s
  have exec_eq : exec .report s = .next (endCall (reportOp s)) := rfl
  obtain ⟨hlen, hplace⟩ := getElem?_flatMap_range (reportRow_length s.found) 8
  rw [exec_eq, reportOp]
  refine ⟨fun hnone => ?_, fun hdone => ⟨reportGrid s.found, ?_, hlen, fun a => ?_, fun r => ?_⟩⟩
  · rw [hnone]; rfl
  · rw [if_pos hdone]; rfl
  · have hcol : a.val % 16 < 16 := Nat.mod_lt _ (by decide)
    rw [reportGrid, hplace _ _ (by omega) (by omega), reportRow_getElem?_cell _ _ hcol, Nat.div_add_mod]
    simp [Vector.getD]
  · rw [reportGrid, hplace _ _ r.isLt (by decide), reportRow_getElem?_end]

end Sys2Proof.Machine

/-! PERIPH's event and stop steps as updates of the registers, and the datasheet's peripheral against the free one (R144
to R146). -/

namespace Sys2Proof.Machine

/-! ### PERIPH's two steps -/

/-- PERIPH writes the code above the reserved bit and the prescaler (R23, R144). -/
theorem statusSetCode_eq_append (old : Byte) (f : StatusField) : statusSetCode old f = f ++ old.extractLsb' 0 3 := by
  refine BitVec.eq_of_getLsbD_eq fun i hi => ?_
  rw [BitVec.getLsbD_append]
  interval_cases i <;> simp [statusSetCode]

/-- The six codes that receive a byte, by their numbers (R144). -/
theorem byteReceived_codeOfField_iff : ∀ f : StatusField,
    byteReceived (codeOfField f) = true ↔ f.toNat * 8 ∈ [0x50, 0x58, 0x80, 0x88, 0x90, 0x98] := by
  decide

/-- The free peripheral's event step, register by register (R144). -/
theorem periphEvent_free_registers {f : StatusField} {d : Byte} {s : State} (hen : ctrlEn s.ctrl = true)
    (hint : ctrlInt s.ctrl = false) : periphEvent .free f d s = { s with
      status := f ++ s.status.extractLsb' 0 3
      data := if f.toNat * 8 ∈ [0x50, 0x58, 0x80, 0x88, 0x90, 0x98] then d else s.data
      ctrl := s.ctrl ||| 0x80#8
      busIdle := false } := by
  rw [periphEvent_of_free hen hint]
  simp only [byteReceived_codeOfField_iff, statusSetCode_eq_append, ctrlSetInt]

/-- A requested stop is executed (R145). -/
theorem periphStop_of_requested {s : State} (hsto : ctrlSto s.ctrl = true) (hen : ctrlEn s.ctrl = true) :
    periphStop s = { s with ctrl := s.ctrl &&& 0xEF#8, busIdle := true } := by
  rw [periphStop, hsto, hen]
  rfl

/-- Settles O13: the machine's peripheral is the free one, and taking the move leaves its registers as they are. -/
theorem peripheralPresentsAnEvent : Obligations.PeripheralPresentsAnEvent := by
  intro s t f d hmove hen hint
  rw [hmove.step_eq]
  obtain ⟨q, n, rfl⟩ := hmove.eq_with
  exact congrArg Host.Outcome.next (periphEvent_free_registers hen hint)

/-- Settles O14: taking the move leaves `CTRL` as it is. -/
theorem peripheralExecutesAStop : Obligations.PeripheralExecutesAStop := by
  intro s t hmove hsto hen
  rw [hmove.step_eq]
  obtain ⟨q, n, rfl⟩ := hmove.eq_with
  exact congrArg Host.Outcome.next (periphStop_of_requested hsto hen)

/-! ### The datasheet's peripheral -/

section Datasheet

variable {s : State} {f : StatusField} {code : Byte}

/-- An event step of the datasheet's peripheral: none, or the free peripheral's with a code that R146 admits. -/
theorem periphEvent_datasheet_cases (s : State) (f : StatusField) (d : Byte) :
    periphEvent .datasheet f d s = s ∨
      periphAdmits .datasheet (codeOfField f) s = true ∧ periphEvent .datasheet f d s = periphEvent .free f d s := by
  cases hadmits : periphAdmits .datasheet (codeOfField f) s with
  | false => exact .inl (by simp [periphEvent, hadmits])
  | true => exact .inr ⟨rfl, by rw [periphEvent, hadmits, periphEvent, periphAdmits]⟩

/-- A code that is not admitted is not presented. -/
theorem periphEvent_datasheet_of_not_admitted (d : Byte) (h : ¬periphAdmits .datasheet (codeOfField f) s = true) :
    periphEvent .datasheet f d s = s :=
  (periphEvent_datasheet_cases s f d).resolve_right fun ⟨hadmits, _⟩ => h hadmits

/-- An admitted address code is one that `EA` and `GCE` allow. -/
theorem mayBeAddressed_of_admitted (h : periphAdmits .datasheet code s = true) (haddr : addressCode code = true) :
    mayBeAddressed code s = true := by
  simp only [periphAdmits, Bool.and_eq_true] at h
  obtain ⟨⟨-, hmay⟩, -⟩ := h
  simpa [haddr] using hmay

/-- Where R146 has a row, an admitted code is one of the row's. -/
theorem mem_row_of_admitted {codes : List Byte} (h : periphAdmits .datasheet code s = true)
    (hrow : datasheetRow s = some codes) : code ∈ codes := by
  simp only [periphAdmits, hrow, Bool.and_eq_true, List.contains_iff_mem] at h
  exact h.2

/-- With `EA = 0` no address code is admitted (R19, R158, R168). -/
theorem not_admitted_of_no_ea (hea : ctrlEa s.ctrl = false) (haddr : addressCode code = true) :
    ¬periphAdmits .datasheet code s = true := by
  intro h
  have hmay := mayBeAddressed_of_admitted h haddr
  simp [mayBeAddressed, hea] at hmay

/-- With `GCE = 0` no general call is admitted (R113). -/
theorem not_admitted_of_no_gce (hgce : s.addr.getLsbD 0 = false) (hcall : code ∈ [0x70#8, 0x78#8]) :
    ¬periphAdmits .datasheet code s = true := by
  intro h
  have haddr : addressCode code = true := by
    rcases List.mem_pair.1 hcall with rfl | rfl <;> rfl
  have hmay := mayBeAddressed_of_admitted h haddr
  rw [mayBeAddressed, hgce, List.contains_iff_mem.2 hcall] at hmay
  simp at hmay

/-- Idle, and after the last byte of a slave reception, the row is that of a block not addressed (R146; log 16). -/
theorem datasheetRow_of_not_addressed
    (h : s.busIdle = true ∨ statusCode s.status = 0x88#8 ∨ statusCode s.status = 0x98#8) :
    datasheetRow s = some (notAddressedRow s) := by
  rcases h with hidle | hlast | hlast
  · simp [datasheetRow, hidle]
  · simp [datasheetRow, hlast, masterState]
  · simp [datasheetRow, hlast, masterState]

/-- A block not addressed, with `EA = 0` and no start requested, is shown nothing but a bus error (R116, R118, R146). -/
theorem eq_busError_of_admitted (h : periphAdmits .datasheet code s = true)
    (hrow : datasheetRow s = some (notAddressedRow s)) (hea : ctrlEa s.ctrl = false) (hsta : ctrlSta s.ctrl = false) :
    code = 0x00#8 := by
  have hmem := mem_row_of_admitted h hrow
  simp only [notAddressedRow, hsta, Bool.false_eq_true, if_false, List.append_nil, List.mem_cons, List.not_mem_nil,
    or_false] at hmem
  have noAddress : addressCode code ≠ true := fun haddr => not_admitted_of_no_ea hea haddr h
  rcases hmem with rfl | rfl | rfl | hzero
  · exact absurd rfl noAddress
  · exact absurd rfl noAddress
  · exact absurd rfl noAddress
  · exact hzero

end Datasheet

/-- The fields of the address codes (R65). -/
theorem addressCode_codeOfField : ∀ f : StatusField,
    f ∈ [0x0C#5, 0x0D#5, 0x0E#5, 0x0F#5, 0x15#5, 0x16#5] → addressCode (codeOfField f) = true := by
  decide

/-- The fields of the general call's two codes (R65). -/
theorem codeOfField_mem_generalCall : ∀ f : StatusField,
    f ∈ [0x0E#5, 0x0F#5] → codeOfField f ∈ [0x70#8, 0x78#8] := by
  decide

/-- The bus error has one field (R65). -/
theorem eq_zero_of_codeOfField_eq_zero : ∀ f : StatusField, codeOfField f = 0x00#8 → f = 0x00#5 := by
  decide

/-- Settles O60: an event is the free peripheral's with an admitted code, and each clause names codes that are not. -/
theorem datasheetPeripheralRefinesTheFreeOne : Obligations.DatasheetPeripheralRefinesTheFreeOne := by
  intro s f d
  refine ⟨(periphEvent_datasheet_cases s f d).imp_right And.right, fun hea hf => ?_, fun hgce hf => ?_,
    fun hstate hea hsta hf => ?_⟩
  · exact periphEvent_datasheet_of_not_admitted d (not_admitted_of_no_ea hea (addressCode_codeOfField f hf))
  · exact periphEvent_datasheet_of_not_admitted d (not_admitted_of_no_gce hgce (codeOfField_mem_generalCall f hf))
  · have hrow := datasheetRow_of_not_addressed hstate
    exact periphEvent_datasheet_of_not_admitted d fun h =>
      hf (eq_zero_of_codeOfField_eq_zero f (eq_busError_of_admitted h hrow hea hsta))

end Sys2Proof.Machine

/-! The marks, emissions and outcomes that no step takes back (R37, R136, R137, R138). -/

namespace Sys2Proof.Machine

section Marks

variable {s t u : State}

/-- The sticky marks, the emissions and the outcomes of calls. -/
def State.marks (s : State) : Bool × FaultMarks × Bool × List Emission × List CallOutcome :=
  (s.refused, s.faults, s.discoveredOk, s.debugOut, s.returns)

/-- From `s` to `t` no mark is cleared, and the emissions and the outcomes only grow at their ends. -/
structure MarksGrow (s t : State) : Prop where
  refused    : s.refused = true → t.refused = true
  fill       : s.faults.fillDuringTransfer = true → t.faults.fillDuringTransfer = true
  start      : s.faults.startDuringTransfer = true → t.faults.startDuringTransfer = true
  discovered : s.discoveredOk = true → t.discoveredOk = true
  debugOut   : s.debugOut <+: t.debugOut
  returns    : s.returns <+: t.returns

namespace MarksGrow

theorem refl (s : State) : MarksGrow s s := ⟨id, id, id, id, List.prefix_rfl, List.prefix_rfl⟩

theorem trans (h : MarksGrow s t) (k : MarksGrow t u) : MarksGrow s u :=
  ⟨k.refused ∘ h.refused, k.fill ∘ h.fill, k.start ∘ h.start, k.discovered ∘ h.discovered,
    h.debugOut.trans k.debugOut, h.returns.trans k.returns⟩

/-- What writes none of the five keeps them. -/
theorem of_marks_eq (h : t.marks = s.marks) : MarksGrow s t := by
  simp only [State.marks, Prod.mk.injEq] at h
  obtain ⟨hrefused, hfaults, hok, hdebug, hreturns⟩ := h
  exact ⟨hrefused.trans, fun hf => by rwa [hfaults], fun hf => by rwa [hfaults], hok.trans,
    hdebug ▸ List.prefix_rfl, hreturns ▸ List.prefix_rfl⟩

theorem then_marks_eq (h : MarksGrow s t) (k : u.marks = t.marks) : MarksGrow s u :=
  h.trans (of_marks_eq k)

/-- An ending call appends its outcome (R76). -/
theorem then_endCall {e : CallEnd} (h : MarksGrow s e.2) : MarksGrow s (endCall e) :=
  ⟨h.refused, h.fill, h.start, h.discovered, h.debugOut, h.returns.trans (List.prefix_append _ _)⟩

end MarksGrow

theorem marksGrow_emit (e : Emission) (s : State) : MarksGrow s (emit e s) :=
  ⟨id, id, id, id, List.prefix_append _ _, List.prefix_rfl⟩

theorem marksGrow_markFill (s : State) : MarksGrow s (markFill s) :=
  ⟨id, fun _ => rfl, id, id, List.prefix_rfl, List.prefix_rfl⟩

theorem marksGrow_markStart (s : State) : MarksGrow s (markStart s) :=
  ⟨id, id, fun _ => rfl, id, List.prefix_rfl, List.prefix_rfl⟩

theorem marksGrow_refusing (n : RefuseName) (s : State) : MarksGrow s (refusing n s).2 :=
  ⟨fun _ => rfl, id, id, id, List.prefix_rfl, List.prefix_rfl⟩

/-! ### HANDLER -/

theorem marks_mtData (s : State) : (mtData s).marks = s.marks := by
  unfold mtData
  split <;> simp [State.marks, loadNext]

theorem marks_mrAck (s : State) : (mrAck s).marks = s.marks := by
  unfold mrAck
  split <;> simp [State.marks]

theorem marks_stData (s : State) : (stData s).marks = s.marks := by
  unfold stData
  split <;> simp [State.marks, loadNext]

theorem marks_startSent (s : State) : (startSent s).marks = s.marks := by
  simp [State.marks, startSent, loadSla]

/-- The end of a slave reception writes at most the sentinel (R119). -/
theorem marks_sentinelIfRoom (s : State) :
    (if s.rx.cursor < s.rx.capacity then rxSentinel s else s).marks = s.marks := by
  split <;> simp [State.marks]

/-- A mapped transition writes none of the five, an unmapped one emits (R127). -/
theorem exec_status_marksGrow {i : Instr} (hi : i.isCall = false) (h : exec i s = .next t) : MarksGrow s t := by
  cases i with
  | status08 | status10 => cases h; exact .of_marks_eq (marks_startSent s)
  | status18 => cases h; exact .of_marks_eq (marks_mtData (setLatch .positive s))
  | status28 => cases h; exact .of_marks_eq (marks_mtData s)
  | status40 => cases h; exact .of_marks_eq (marks_mrAck s)
  | status50 => cases h; exact .of_marks_eq (marks_mrAck (rxAppend s.data s))
  | statusA0 => cases h; exact .of_marks_eq (marks_sentinelIfRoom s)
  | statusA8 | statusB0 => cases h; exact .of_marks_eq (marks_stData (rewoundTransmitter s))
  | statusB8 => cases h; exact .of_marks_eq (marks_stData s)
  | status00 | status20 | status30 | status38 | status48 | status58 | status60 | status68 | status70 | status78
  | status80 | status88 | status90 | status98 | statusC0 | statusC8 | statusF8 => cases h; exact .of_marks_eq rfl
  | statusD0 | statusD8 | statusE0 | statusE8 | statusF0 => cases h; exact marksGrow_emit _ s
  | _ => cases hi

theorem handlerStep_marksGrow (h : handlerStep s = .next t) : MarksGrow s t := by
  unfold handlerStep at h
  split at h
  · exact exec_status_marksGrow (decodeStatus_isCall s.status) h
  · cases h
    exact .refl s

/-! ### The calls of the foreground -/

theorem marksGrow_applyOp (f : Nat) (c : ConfigArg) (s : State) : MarksGrow s (applyOp f c s).2 := by
  rcases applyOp_cases s f c with ⟨n, -, h⟩ | ⟨r, -, h⟩ | ⟨b, d, -, h⟩
  · rw [h]
    exact marksGrow_refusing n s
  · rw [h]
    exact .refl s
  · rw [h, applyEffects_eq]
    exact .of_marks_eq rfl

theorem marksGrow_setTargetOp (a : Nat) (s : State) : MarksGrow s (setTargetOp a s).2 := by
  obtain ⟨t, h⟩ := setTargetOp_state s a
  rw [h]
  exact .of_marks_eq rfl

theorem marksGrow_fillOp (txMax : Nat) (bs : List Byte) (s : State) : MarksGrow s (fillOp txMax bs s).2 := by
  unfold fillOp
  split_ifs
  · exact .refl s
  · exact marksGrow_refusing _ s
  · exact (marksGrow_markFill s).then_marks_eq rfl
  · exact .of_marks_eq rfl

theorem marksGrow_setCapacityOp (rxMax n : Nat) (s : State) : MarksGrow s (setCapacityOp rxMax n s).2 := by
  unfold setCapacityOp
  split
  · exact marksGrow_refusing _ s
  · exact .of_marks_eq rfl

theorem marksGrow_startOp (s : State) : MarksGrow s (startOp s).2 := by
  unfold startOp
  split_ifs
  · exact .refl s
  · exact (marksGrow_markStart s).then_marks_eq rfl
  · exact .of_marks_eq rfl
  · exact .refl s

theorem marks_getReceivedOp (s : State) : (getReceivedOp s).2.marks = s.marks := by
  unfold getReceivedOp
  split <;> rfl

theorem marks_flushReceiveOp (s : State) : (flushReceiveOp s).2.marks = s.marks := by
  unfold flushReceiveOp
  split <;> rfl

theorem marks_flushTransmitOp (s : State) : (flushTransmitOp s).2.marks = s.marks := by
  unfold flushTransmitOp
  split <;> rfl

/-- The report appends its grid to the emissions (R131). -/
theorem marksGrow_reportOp (s : State) : MarksGrow s (reportOp s).2 := by
  unfold reportOp
  split
  · exact ⟨id, id, id, id, List.prefix_append _ _, List.prefix_rfl⟩
  · exact .refl s

/-- `discover` begins with the effects of `apply`, whether the scan starts or the call ends (R128). -/
theorem marksGrow_discoverBegin (f : Nat) (s : State) : MarksGrow s (discoverBegin f s) := by
  have happly := marksGrow_applyOp f defaultProfile.toArg s
  unfold discoverBegin
  split
  · next t heq =>
    rw [heq] at happly
    exact happly.then_marks_eq rfl
  · exact happly.then_endCall

theorem exec_call_marksGrow {i : Instr} (hi : i.isCall = true) (h : exec i s = .next t) : MarksGrow s t := by
  cases i with
  | apply c => cases h; exact (marksGrow_applyOp _ c s).then_endCall
  | defaultConfig => cases h; exact (MarksGrow.refl s).then_endCall
  | setTargetAddress a => cases h; exact (marksGrow_setTargetOp a s).then_endCall
  | fillTransmit bs => cases h; exact (marksGrow_fillOp _ bs s).then_endCall
  | setReceiveCapacity n => cases h; exact (marksGrow_setCapacityOp _ n s).then_endCall
  | start => cases h; exact (marksGrow_startOp s).then_endCall
  | stop => cases h; exact .then_endCall (e := stopOp s) (.of_marks_eq rfl)
  | getReceived => cases h; exact (MarksGrow.of_marks_eq (marks_getReceivedOp s)).then_endCall
  | flushReceive => cases h; exact (MarksGrow.of_marks_eq (marks_flushReceiveOp s)).then_endCall
  | flushTransmit => cases h; exact (MarksGrow.of_marks_eq (marks_flushTransmitOp s)).then_endCall
  | discover => cases h; exact marksGrow_discoverBegin _ s
  | report => cases h; exact (marksGrow_reportOp s).then_endCall
  | _ => cases hi

theorem fgCall_marksGrow (h : fgCall s = .next t) : MarksGrow s t := by
  have passed (p : List Byte) : MarksGrow s { s with program := p } := .of_marks_eq rfl
  unfold fgCall at h
  split at h
  · cases h
    exact .refl s
  · next sel args _ =>
    split at h
    · next i rest hdec => exact (passed rest).trans (exec_call_marksGrow (decodeCall_isCall hdec) h)
    · cases h
      exact ((passed args).trans (marksGrow_refusing _ _)).then_endCall
    · cases h

/-! ### The lines of a scan -/

/-- Line 7 can only set `discovered_ok`, and ends the call (R37, R128). -/
theorem marksGrow_discoverCommit (d : Discovery) (s : State) : MarksGrow s (discoverCommit d s) :=
  MarksGrow.then_endCall (e := returning _ _)
    ⟨id, id, id, fun h => Bool.or_eq_true_iff.2 (.inl h), List.prefix_rfl, List.prefix_rfl⟩

theorem marksGrow_discoverStep (d : Discovery) (s : State) : MarksGrow s (discoverStep d s) := by
  cases hline : d.line with
  | loopHead =>
    by_cases hself : d.a.val = s.cfg.selfAddr.toNat
    · rw [discoverStep_loopHead_of_self hline hself]
      exact .of_marks_eq rfl
    · rw [discoverStep_loopHead_of_other hline hself]
      exact .of_marks_eq rfl
  | setTarget => rw [discoverStep_setTarget hline]; exact .of_marks_eq rfl
  | startProbe => rw [discoverStep, hline]; exact (marksGrow_startOp s).then_marks_eq rfl
  | poll => rw [discoverStep_poll hline]; exact .of_marks_eq rfl
  | record l => rw [discoverStep_record hline]; exact .of_marks_eq rfl
  | commit => rw [discoverStep, hline]; exact marksGrow_discoverCommit d s

/-! ### Every step -/

theorem fgStep_marksGrow (h : fgStep s = .next t) : MarksGrow s t := by
  unfold fgStep at h
  split at h
  · cases h
    exact marksGrow_discoverStep _ s
  · exact fgCall_marksGrow h

/-- PERIPH writes none of the five. -/
theorem marks_periphEvent (p : PeriphModel) (f : StatusField) (d : Byte) (s : State) :
    (periphEvent p f d s).marks = s.marks := by
  rcases periphEvent_cases p f d s with h | ⟨b, h⟩ <;> rw [h]
  rfl

theorem marks_periphStop (s : State) : (periphStop s).marks = s.marks := by
  rcases periphStop_cases s with h | h <;> rw [h]
  rfl

theorem runMove_marksGrow {m : Move} (h : runMove m s = .next t) : MarksGrow s t := by
  cases m with
  | fg => exact fgStep_marksGrow h
  | handler => exact handlerStep_marksGrow h
  | event f d => cases h; exact .of_marks_eq (marks_periphEvent _ f d s)
  | stopDone => cases h; exact .of_marks_eq (marks_periphStop s)

end Marks

/-- Settles O53, agent by agent. -/
theorem stickyMarksAreNeverCleared : Obligations.StickyMarksAreNeverCleared := by
  intro s t ht
  obtain ⟨m, u, hmove⟩ := exists_moveIs s
  rw [hmove.step_eq] at ht
  obtain ⟨q, n, rfl⟩ := hmove.eq_with
  obtain ⟨hrefused, hfill, hstart, hdiscovered, hdebug, hreturns⟩ := runMove_marksGrow ht
  exact ⟨hrefused, hfill, hstart, hdiscovered, hdebug, hreturns⟩

end Sys2Proof.Machine

/-! After power-on (R156, R157), and the retry after lost arbitration (R165). -/

namespace Sys2Proof.Machine

/-! ### After power-on -/

/-- Settles O8: no event is deliverable, PERIPH is disabled, and no stop is requested. -/
theorem afterResetOnlyTheForegroundActs : Obligations.AfterResetOnlyTheForegroundActs := by
  intro p q n m hm
  have cleared :
      ctrlInt State.reset.ctrl = false ∧ ctrlEn State.reset.ctrl = false ∧ ctrlSto State.reset.ctrl = false := by
    decide
  obtain ⟨hint, hen, hsto⟩ := cleared
  cases m with
  | fg => exact absurd rfl hm
  | handler => exact handlerStep_of_not_deliverable (by rw [deliverable, hint]; rfl)
  | event f d => exact congrArg Host.Outcome.next (periphEvent_of_no_event (.inl hen))
  | stopDone => exact congrArg Host.Outcome.next (periphStop_of_no_stop (.inl hsto))

/-- Settles O9: each call takes the branch of its own statement that the reset configuration and the dead, empty buffers
meet. -/
theorem callsBeforeAnyApply : Obligations.CallsBeforeAnyApply := by
  obtain ⟨startOff, -, -⟩ := startRequestsTheStartCondition State.reset
  obtain ⟨-, receiveOpen⟩ := getReceivedReturnsTheCompletedReceive State.reset
  obtain ⟨-, receiveDead, -, transmitDead⟩ := flushReleasesALiveBuffer State.reset
  obtain ⟨notDiscovered, -⟩ := reportRendersTheGrid State.reset
  obtain ⟨discovers, begins⟩ := discoverAppliesTheDefaultProfile State.reset
  refine ⟨startOff rfl, ?target_self, fun a hpos hin => ?target, fun bs hfits => ?fill, fun n hfits => ?capacity,
    receiveOpen (.inl rfl), receiveDead rfl, transmitDead rfl, notDiscovered rfl, discovers,
    fun f hlow hhigh => ?clock⟩
  case target_self =>
    obtain ⟨-, self, -, -⟩ := setTargetAddressChecksInOrder 0 State.reset
    exact self (by decide) rfl
  case target =>
    obtain ⟨-, -, slave, -⟩ := setTargetAddressChecksInOrder a State.reset
    exact slave hin (Nat.pos_iff_ne_zero.1 hpos) rfl
  case fill =>
    obtain ⟨-, -, fills⟩ := fillTransmitReplacesTheBuffer bs State.reset
    obtain ⟨m, hexec, -⟩ := fills nofun hfits
    exact ⟨_, hexec, rfl, rfl, rfl⟩
  case capacity =>
    obtain ⟨-, records⟩ := setReceiveCapacityRecordsTheCapacity n State.reset
    exact ⟨_, records hfits, rfl, rfl⟩
  case clock =>
    rw [begins, if_neg hlow.not_gt, if_neg hhigh.not_ge]
    exact ⟨rfl, rfl⟩

/-! ### The retry after lost arbitration -/

section Retry

variable {s : State} {p : Bool} {e : CommError} {tx : TxBuffer}

/-- `s` is a state of a master transmission from the buffer `tx`: the block is enabled, `INT` is `p`, and `last_error`
is `e`. -/
structure SendsAt (p : Bool) (e : CommError) (tx : TxBuffer) (s : State) : Prop where
  enable  : ctrlEn s.ctrl = true
  pending : ctrlInt s.ctrl = p
  buffer  : s.tx = tx
  error   : s.lastError = e

namespace SendsAt

/-- PERIPH presents a code, and the buffer waits (R144). -/
theorem event (h : SendsAt false e tx s) (f : StatusField) (d : Byte) : SendsAt true e tx (periphEvent .free f d s) := by
  rw [periphEvent_of_free h.enable h.pending]
  exact ⟨(ctrlEn_ctrlSetInt _).trans h.enable, ctrlInt_ctrlSetInt _, h.buffer, h.error⟩

/-- Retiring the event leaves the buffer and the error (R94). -/
theorem finishCtl (h : SendsAt p e tx s) (sta sto ea : Bool) : SendsAt false e tx (Machine.finishCtl sta sto ea s) :=
  ⟨(ctrlEn_ctrlAfterWrite_ctl _ _ _ _).trans h.enable, ctrlInt_finishCtl _ _ _ _, h.buffer, h.error⟩

/-- A byte loaded into `DATA` leaves the buffer and the error (R24). -/
theorem writeData (h : SendsAt true e tx s) (v : Byte) : SendsAt true e tx (s.writeData v) := by
  rw [writeData_of_pending s v h.pending]
  exact ⟨(ctrlEn_ctrlClearWc _).trans h.enable, (ctrlInt_ctrlClearWc _).trans h.pending, h.buffer, h.error⟩

/-- START sent takes no byte from the buffer: the SLA+W is not in it (R98, R165). -/
theorem exec_status08 (h : SendsAt true e tx s) : ∃ t, exec .status08 s = .next t ∧ SendsAt false e tx t :=
  ⟨_, rfl, (h.writeData _).finishCtl _ _ _⟩

/-- Lost arbitration is recorded, and the cursor is not rewound (R104). -/
theorem exec_status38 (h : SendsAt true e tx s) :
    ∃ t, exec .status38 s = .next t ∧ SendsAt false .arbitrationLost tx t :=
  ⟨_, rfl, SendsAt.finishCtl (s := setError .arbitrationLost s) ⟨h.enable, h.pending, h.buffer, rfl⟩ _ _ _⟩

/-- `mt_data()` with a byte remaining loads it and passes it (R96). -/
theorem mtData (h : SendsAt true e tx s) (hlive : tx.live = true) (hcur : tx.cursor < tx.len) :
    SendsAt false e { tx with cursor := tx.cursor + 1 } (Machine.mtData s) ∧
      (Machine.mtData s).data = Memory.read Config.txPowerOn tx.bytes tx.cursor := by
  obtain ⟨henable, hpending, rfl, herror⟩ := h
  have hnext : txHasNext s = true := (txHasNext_iff s).2 ⟨hlive, hcur⟩
  have hpassed : SendsAt true e { s.tx with cursor := s.tx.cursor + 1 } (txAdvance s) :=
    ⟨henable, hpending, rfl, herror⟩
  rw [mtData_of_next s hnext]
  refine ⟨(hpassed.writeData _).finishCtl _ _ _, ?_⟩
  rw [finishCtl_data, loadNext, writeData_of_pending _ _ hpassed.pending, txNextByte]

/-- An acknowledged address and an acknowledged byte both load the next byte (R100, R102). -/
theorem exec_ack {i : Instr} (hi : i ∈ [Instr.status18, Instr.status28]) (h : SendsAt true e tx s)
    (hlive : tx.live = true) (hcur : tx.cursor < tx.len) :
    ∃ t, exec i s = .next t ∧ SendsAt false e { tx with cursor := tx.cursor + 1 } t ∧
      t.data = Memory.read Config.txPowerOn tx.bytes tx.cursor := by
  rcases List.mem_pair.1 hi with rfl | rfl
  · exact ⟨_, rfl, SendsAt.mtData (s := setLatch .positive s) ⟨h.enable, h.pending, h.buffer, h.error⟩ hlive hcur⟩
  · exact ⟨_, rfl, h.mtData hlive hcur⟩

/-- Arbitration lost while the block waits, the new START and the address's acknowledgment: the byte then loaded is the
one at the cursor where the loss found it (R104, R165). -/
theorem retry (h : SendsAt false e tx s) (hlive : tx.live = true) (hcur : tx.cursor < tx.len) (x y z : Byte) :
    ∃ t u v, exec .status38 (periphEvent .free 0x07#5 x s) = .next t ∧
      exec .status08 (periphEvent .free 0x01#5 y t) = .next u ∧
      exec .status18 (periphEvent .free 0x03#5 z u) = .next v ∧
      SendsAt false .arbitrationLost { tx with cursor := tx.cursor + 1 } v ∧
      v.data = Memory.read Config.txPowerOn tx.bytes tx.cursor := by
  obtain ⟨t, lost, hlost⟩ := (h.event 0x07#5 x).exec_status38
  obtain ⟨u, sent, hsent⟩ := (hlost.event 0x01#5 y).exec_status08
  obtain ⟨v, acked, hacked, hdata⟩ := (hsent.event 0x03#5 z).exec_ack (i := .status18) (by decide) hlive hcur
  exact ⟨t, u, v, lost, sent, acked, hacked, hdata⟩

end SendsAt

end Retry

/-- Settles O59: the retry loads the byte at the cursor, which a loaded byte has moved and START has not. -/
theorem arbitrationRetrySkipsTheLostByte : Obligations.ArbitrationRetrySkipsTheLostByte := by
  intro s x y z hint hen hlive
  have start : SendsAt true s.lastError s.tx s := ⟨hen, hint, rfl, rfl⟩
  refine ⟨fun i hi hcur => ?_, fun hcur => ?_⟩
  · obtain ⟨a, loaded, ha, hdata⟩ := start.exec_ack hi hlive (Nat.lt_of_succ_lt hcur)
    obtain ⟨t, u, v, lost, sent, acked, hv, hnext⟩ := ha.retry hlive hcur x y z
    exact ⟨a, t, u, v, loaded, hdata, by rw [ha.buffer], lost, sent, acked, hnext,
      by rw [hv.buffer], by rw [hv.buffer], hv.error⟩
  · obtain ⟨a, sla, ha⟩ := start.exec_status08
    obtain ⟨t, u, v, lost, sent, acked, hv, hnext⟩ := ha.retry hlive hcur x y z
    exact ⟨a, t, u, v, sla, lost, sent, acked, hnext, by rw [hv.buffer], by rw [hv.buffer], hv.error⟩

end Sys2Proof.Machine
